-- ==== Sys2Proof/Word.lean ====
section
/-! DEFINITION. The two machine word types (spec/00_scope.md R6, R8). -/

namespace Sys2Proof

/-- A byte, bits 7..0 (R8). -/
abbrev Byte := BitVec 8

/-- A 16-bit word, bits 15..0: an address or a register pair (R8, R70). -/
abbrev Word := BitVec 16

end Sys2Proof
end

