-- ==== Sys2Proof/Machine/Bytes.lean ====
section
/-! DEFINITION. Bit fields, byte order and sign extension (spec/00_scope.md R8). -/

namespace Sys2Proof

/-- `hi ++ lo` (R8, R10). -/
def joinBytes (hi lo : Byte) : Word := hi ++ lo

/-- `hi(w) = w[15:8]` (R8). -/
def hiByte (w : Word) : Byte := w.extractLsb' 8 8

/-- `lo(w) = w[7:0]` (R8). -/
def loByte (w : Word) : Byte := w.extractLsb' 0 8

/-- `sext8`, as a word to be added modulo 65 536 (R8, R117). -/
def sext8 (d : Byte) : Word := d.signExtend 16

/-- A bit as a byte, 0 or 1. -/
def bitByte (b : Bool) : Byte := if b then 1 else 0

end Sys2Proof
end

