-- ==== Sys2Proof/Config.lean ====
section
/-! DEFINITION. The parameters of the machine: the ones the source fixes (R6) and the ones it leaves open (R7, D1, D19). The open addresses
are a `Layout`, which the launch of a program takes as an argument (`launchState`); the numbers here are `State.reset`'s alone.
The environment function of D17 is `Config.environment` of Machine/Environment.lean (it reads the whole State). -/

namespace Sys2Proof.Config

/-- `MAGIC_ADDRESS`, the first of the last 19 bytes (R6, R78). -/
def magicAddress : Word := 0xFFED

/-- The launch value of `PC`, the start of the TPA (R52). -/
def launchPc : Word := 0x0100

/-- `SP_INIT`, OPEN (D19). DESIGN CHOICE, log entry 2: the value of the spec's own test image (95_test_vectors.md §5.1). -/
def spInit : Word := 0xFFEB

/-- `W`, the pre-pushed WBOOT return address (R623), OPEN. DESIGN CHOICE, log entry 2: the test image's value. -/
def wbootReturn : Word := 0x0000

/-- `BDOS_START`, OPEN (D19). DESIGN CHOICE, log entry 2: the test image's value. -/
def bdosStart : Word := 0xFE00

/-- `BIOS_VECTOR`, OPEN (D19). DESIGN CHOICE, log entry 2: the test image's value. -/
def biosVector : Word := 0xFF00

/-- `WBOOT_TARGET`, OPEN (D19, N21). DESIGN CHOICE, log entry 2: magic offset 2 read literally. -/
def wbootTarget : Word := 0xFFEF

/-- The address of the six serial-number bytes, OPEN (R622, N20). DESIGN CHOICE, log entry 2: directly below the 16 bytes of the
CCP stack whose top slot is `SP_INIT`. -/
def serialNumber : Word := 0xFFD7

/-- Where the 15 bytes of the fake disk parameter block lie, OPEN (R622). DESIGN CHOICE, log entry 2: below the BIOS vector and the
allocation vector. -/
def dpbStart : Word := 0xFEB1

/-- Where the 64 bytes of the fake allocation vector lie, OPEN (R622). DESIGN CHOICE, log entry 2: directly below the BIOS vector. -/
def alvStart : Word := 0xFEC0

/-- The default DMA buffer (R79), where BDOS 13 sets the DMA address (R573). -/
def defaultDma : Word := 0x0080

/-- The length of a File Control Block, which the spec does not give. PRESUMED, log entry 32: the 36 bytes of CP/M 2.2. -/
def fcbLength : Word := 36

/-- The length of the DMA buffer (R79, R573). -/
def dmaLength : Word := 128

/-- `TPA_END`, OPEN (D19): the default the spec recommends, `BDOS_START − 1`. It bounds the program image. -/
def tpaEnd : Word := bdosStart - 1

/-- The open addresses of D19 and R622: parameters the launch takes as an argument (R7). What the spec asks of them is `layoutOk` of
Machine/Loader.lean. -/
structure Layout where
  spInit : Word
  wbootReturn : Word
  bdosStart : Word
  biosVector : Word
  wbootTarget : Word
  tpaEnd : Word
  serialNumber : Word
  dpbStart : Word
  alvStart : Word
  deriving DecidableEq, Repr

/-- The layout of `State.reset`. DESIGN CHOICE, log entry 2: one layout that meets the spec's conditions. -/
def resetLayout : Layout :=
  { spInit := spInit, wbootReturn := wbootReturn, bdosStart := bdosStart, biosVector := biosVector, wbootTarget := wbootTarget,
    tpaEnd := tpaEnd, serialNumber := serialNumber, dpbStart := dpbStart, alvStart := alvStart }

/-- What `PC` holds after `HALT` (R338, D1): `spin` re-executes the `HALT`, `nop` goes on behind it. -/
inductive HaltMode
  | spin
  | nop
  deriving DecidableEq, Repr, Inhabited

/-- `HALT_MODE`, OPEN (D1, U1): no claim can depend on its value. Log entry 3. -/
opaque haltMode : HaltMode

end Sys2Proof.Config
end

