-- ==== Sys2Proof/Syntax.lean ====
section
/-! DEFINITION. The instructions: one constructor per mnemonic of spec/opcode_table.json (rows of one mnemonic in several planes
share it; `NOP*` of the ED plane has one of its own, `nopEd`). Operand codes are resolved to names here (R110 to R113, R116), so
that an operand the encoding does not have cannot be written; what is left to check is in WellFormed.lean. -/

namespace Sys2Proof

/-- 8-bit operand codes other than 6 (R110). -/
inductive Reg8
  | b | c | d | e | h | l | a
  deriving DecidableEq, Repr

/-- Which index register a `DD` or `FD` selects (R101 step 3). -/
inductive Index
  | ix | iy
  deriving DecidableEq, Repr

/-- A half of an index register: high (`IXH`) or low (`IXL`) (R34). -/
inductive Half
  | hi | lo
  deriving DecidableEq, Repr

/-- The 8-bit operand codes of `LD p,p'` under a `DD` or `FD`: codes 4 and 5 are the halves of the index register (R165). -/
inductive IdxReg8
  | b | c | d | e | hi | lo | a
  deriving DecidableEq, Repr

/-- Pair codes `rp` (R111). -/
inductive Pair
  | bc | de | hl | sp
  deriving DecidableEq, Repr

/-- Pair codes `rp2` of push and pop (R112). -/
inductive StackPair
  | bc | de | hl | af
  deriving DecidableEq, Repr

/-- Pair codes of `ADD IX,pp` and `ADD IY,rr`: code 2 is the index register itself (R362). -/
inductive IdxPair
  | bc | de | xy | sp
  deriving DecidableEq, Repr

/-- Condition codes `cc` (R113). -/
inductive Cond
  | nz | z | nc | c | po | pe | p | m
  deriving DecidableEq, Repr

/-- The four conditions of `JR cc,e` (R474). -/
inductive JrCond
  | nz | z | nc | c
  deriving DecidableEq, Repr

/-- The planes of R104: which of the 256-entry tables the next byte is looked up in. -/
inductive Plane
  | base | ed | cb | dd | fd | ddcb | fdcb
  deriving DecidableEq, Repr

/-- The instructions. Each constructor names the rule that gives its meaning. -/
inductive Instr
  -- 8-bit load group (spec/40_load8.md)
  /-- R151: `LD r,r'`: `r8[y] <- r8[z]`. -/
  | ldRR (r r' : Reg8)
  /-- R152: `LD r,n`: `r8[y] <- n`. -/
  | ldRN (r : Reg8) (n : Byte)
  /-- R153: `LD r,(HL)`: `r8[y] <- Mem[HL]`. -/
  | ldRAtHl (r : Reg8)
  /-- R154: `LD r,(IX+d)`, plain `H`, `L` for codes 4, 5 (R116). -/
  | ldRAtIx (r : Reg8) (d : Byte)
  /-- R154: `LD r,(IY+d)`, plain `H`, `L` for codes 4, 5 (R116). -/
  | ldRAtIy (r : Reg8) (d : Byte)
  /-- R155: `LD (HL),r`. -/
  | ldAtHlR (r : Reg8)
  /-- R156: `LD (IX+d),r`, plain `H`, `L` for codes 4, 5 (R116). -/
  | ldAtIxR (d : Byte) (r : Reg8)
  /-- R156: `LD (IY+d),r`, plain `H`, `L` for codes 4, 5 (R116). -/
  | ldAtIyR (d : Byte) (r : Reg8)
  /-- R157: `LD (HL),n`. -/
  | ldAtHlN (n : Byte)
  /-- R158: `LD (IX+d),n`, displacement before immediate. -/
  | ldAtIxN (d n : Byte)
  /-- R158: `LD (IY+d),n`, displacement before immediate. -/
  | ldAtIyN (d n : Byte)
  /-- R159: `LD A,(BC)`. -/
  | ldAAtBc
  /-- R160: `LD A,(DE)`. -/
  | ldAAtDe
  /-- R161: `LD A,(nn)`. -/
  | ldAAtNn (nn : Word)
  /-- R162: `LD (BC),A`. -/
  | ldAtBcA
  /-- R163: `LD (DE),A`. -/
  | ldAtDeA
  /-- R164: `LD (nn),A`. -/
  | ldAtNnA (nn : Word)
  /-- R165: `LD p,p'` under `DD` or `FD`: codes 4 and 5 are the halves of `IX` or `IY`. -/
  | ldPP (xy : Index) (p p' : IdxReg8)
  /-- R166: `LD IXH,n` and `LD IXL,n`. -/
  | ldIxhN (h : Half) (n : Byte)
  /-- R166: `LD IYH,n` and `LD IYL,n`. -/
  | ldIyhN (h : Half) (n : Byte)
  /-- R172: `LD I,A`. -/
  | ldIA
  /-- R173: `LD R,A`, all eight bits, after this instruction's own `R` increments. -/
  | ldRA
  /-- R174: `LD A,I`, `fPV <- IFF`. -/
  | ldAI
  /-- R175: `LD A,R`, `R` after this instruction's own increments. -/
  | ldAR
  -- 16-bit load group, push and pop (spec/41_load16_stack.md)
  /-- R201: `LD dd,nn`. -/
  | ldDdNn (dd : Pair) (nn : Word)
  /-- R202: `LD IX,nn`. -/
  | ldIxNn (nn : Word)
  /-- R202: `LD IY,nn`. -/
  | ldIyNn (nn : Word)
  /-- R203: `LD HL,(nn)`. -/
  | ldHlAtNn (nn : Word)
  /-- R204: `LD dd,(nn)`. -/
  | ldDdAtNn (dd : Pair) (nn : Word)
  /-- R205: `LD IX,(nn)`. -/
  | ldIxAtNn (nn : Word)
  /-- R205: `LD IY,(nn)`. -/
  | ldIyAtNn (nn : Word)
  /-- R206: `LD (nn),HL`. -/
  | ldAtNnHl (nn : Word)
  /-- R207: `LD (nn),dd`. -/
  | ldAtNnDd (nn : Word) (dd : Pair)
  /-- R208: `LD (nn),IX`. -/
  | ldAtNnIx (nn : Word)
  /-- R208: `LD (nn),IY`. -/
  | ldAtNnIy (nn : Word)
  /-- R209: `LD SP,HL`. -/
  | ldSpHl
  /-- R210: `LD SP,IX`. -/
  | ldSpIx
  /-- R210: `LD SP,IY`. -/
  | ldSpIy
  /-- R211: `PUSH qq`. -/
  | pushQq (qq : StackPair)
  /-- R212: `PUSH IX`. -/
  | pushIx
  /-- R212: `PUSH IY`. -/
  | pushIy
  /-- R213: `POP qq`. -/
  | popQq (qq : StackPair)
  /-- R214: `POP IX`. -/
  | popIx
  /-- R214: `POP IY`. -/
  | popIy
  -- exchange, block transfer, block search (spec/42_exchange_block.md)
  /-- R241: `EX DE,HL`. -/
  | exDeHl
  /-- R242: `EX AF,AF'`. -/
  | exAfAf
  /-- R243: `EXX`. -/
  | exx
  /-- R244: `EX (SP),HL`, both reads before both writes. -/
  | exAtSpHl
  /-- R245: `EX (SP),IX`. -/
  | exAtSpIx
  /-- R245: `EX (SP),IY`. -/
  | exAtSpIy
  /-- R250: `LDI`. -/
  | ldi
  /-- R251: `LDD`. -/
  | ldd
  /-- R252: `LDIR`, one iteration a cycle (R260). -/
  | ldir
  /-- R253: `LDDR`, one iteration a cycle (R260). -/
  | lddr
  /-- R254: `CPI`. -/
  | cpi
  /-- R255: `CPD`. -/
  | cpd
  /-- R256: `CPIR`, one iteration a cycle (R260). -/
  | cpir
  /-- R257: `CPDR`, one iteration a cycle (R260). -/
  | cpdr
  -- 8-bit arithmetic and logic (spec/43_alu8.md)
  /-- R286: `ADD A,r`. -/
  | addAR (r : Reg8)
  /-- R286: `ADD A,(HL)`. -/
  | addAAtHl
  /-- R286: `ADD A,n`. -/
  | addAN (n : Byte)
  /-- R286: `ADD A,IXH`, `ADD A,IXL`. -/
  | addAIxh (h : Half)
  /-- R286: `ADD A,(IX+d)`. -/
  | addAAtIx (d : Byte)
  /-- R286: `ADD A,IYH`, `ADD A,IYL`. -/
  | addAIyh (h : Half)
  /-- R286: `ADD A,(IY+d)`. -/
  | addAAtIy (d : Byte)
  /-- R287: `ADC A,r`. -/
  | adcAR (r : Reg8)
  /-- R287: `ADC A,(HL)`. -/
  | adcAAtHl
  /-- R287: `ADC A,n`. -/
  | adcAN (n : Byte)
  /-- R287: `ADC A,IXH`, `ADC A,IXL`. -/
  | adcAIxh (h : Half)
  /-- R287: `ADC A,(IX+d)`. -/
  | adcAAtIx (d : Byte)
  /-- R287: `ADC A,IYH`, `ADC A,IYL`. -/
  | adcAIyh (h : Half)
  /-- R287: `ADC A,(IY+d)`. -/
  | adcAAtIy (d : Byte)
  /-- R288: `SUB r`. -/
  | subR (r : Reg8)
  /-- R288: `SUB (HL)`. -/
  | subAtHl
  /-- R288: `SUB n`. -/
  | subN (n : Byte)
  /-- R288: `SUB IXH`, `SUB IXL`. -/
  | subIxh (h : Half)
  /-- R288: `SUB (IX+d)`. -/
  | subAtIx (d : Byte)
  /-- R288: `SUB IYH`, `SUB IYL`. -/
  | subIyh (h : Half)
  /-- R288: `SUB (IY+d)`. -/
  | subAtIy (d : Byte)
  /-- R289: `SBC A,r`. -/
  | sbcAR (r : Reg8)
  /-- R289: `SBC A,(HL)`. -/
  | sbcAAtHl
  /-- R289: `SBC A,n`. -/
  | sbcAN (n : Byte)
  /-- R289: `SBC A,IXH`, `SBC A,IXL`. -/
  | sbcAIxh (h : Half)
  /-- R289: `SBC A,(IX+d)`. -/
  | sbcAAtIx (d : Byte)
  /-- R289: `SBC A,IYH`, `SBC A,IYL`. -/
  | sbcAIyh (h : Half)
  /-- R289: `SBC A,(IY+d)`. -/
  | sbcAAtIy (d : Byte)
  /-- R290: `AND r`. -/
  | andR (r : Reg8)
  /-- R290: `AND (HL)`. -/
  | andAtHl
  /-- R290: `AND n`. -/
  | andN (n : Byte)
  /-- R290: `AND IXH`, `AND IXL`. -/
  | andIxh (h : Half)
  /-- R290: `AND (IX+d)`. -/
  | andAtIx (d : Byte)
  /-- R290: `AND IYH`, `AND IYL`. -/
  | andIyh (h : Half)
  /-- R290: `AND (IY+d)`. -/
  | andAtIy (d : Byte)
  /-- R291: `XOR r`. -/
  | xorR (r : Reg8)
  /-- R291: `XOR (HL)`. -/
  | xorAtHl
  /-- R291: `XOR n`. -/
  | xorN (n : Byte)
  /-- R291: `XOR IXH`, `XOR IXL`. -/
  | xorIxh (h : Half)
  /-- R291: `XOR (IX+d)`. -/
  | xorAtIx (d : Byte)
  /-- R291: `XOR IYH`, `XOR IYL`. -/
  | xorIyh (h : Half)
  /-- R291: `XOR (IY+d)`. -/
  | xorAtIy (d : Byte)
  /-- R292: `OR r`. -/
  | orR (r : Reg8)
  /-- R292: `OR (HL)`. -/
  | orAtHl
  /-- R292: `OR n`. -/
  | orN (n : Byte)
  /-- R292: `OR IXH`, `OR IXL`. -/
  | orIxh (h : Half)
  /-- R292: `OR (IX+d)`. -/
  | orAtIx (d : Byte)
  /-- R292: `OR IYH`, `OR IYL`. -/
  | orIyh (h : Half)
  /-- R292: `OR (IY+d)`. -/
  | orAtIy (d : Byte)
  /-- R293: `CP r`. -/
  | cpR (r : Reg8)
  /-- R293: `CP (HL)`. -/
  | cpAtHl
  /-- R293: `CP n`. -/
  | cpN (n : Byte)
  /-- R293: `CP IXH`, `CP IXL`. -/
  | cpIxh (h : Half)
  /-- R293: `CP (IX+d)`. -/
  | cpAtIx (d : Byte)
  /-- R293: `CP IYH`, `CP IYL`. -/
  | cpIyh (h : Half)
  /-- R293: `CP (IY+d)`. -/
  | cpAtIy (d : Byte)
  /-- R301: `INC r`. -/
  | incR (r : Reg8)
  /-- R301: `INC (HL)`. -/
  | incAtHl
  /-- R301: `INC IXH`, `INC IXL`. -/
  | incIxh (h : Half)
  /-- R301: `INC (IX+d)`. -/
  | incAtIx (d : Byte)
  /-- R301: `INC IYH`, `INC IYL`. -/
  | incIyh (h : Half)
  /-- R301: `INC (IY+d)`. -/
  | incAtIy (d : Byte)
  /-- R302: `DEC r`. -/
  | decR (r : Reg8)
  /-- R302: `DEC (HL)`. -/
  | decAtHl
  /-- R302: `DEC IXH`, `DEC IXL`. -/
  | decIxh (h : Half)
  /-- R302: `DEC (IX+d)`. -/
  | decAtIx (d : Byte)
  /-- R302: `DEC IYH`, `DEC IYL`. -/
  | decIyh (h : Half)
  /-- R302: `DEC (IY+d)`. -/
  | decAtIy (d : Byte)
  -- general-purpose arithmetic and CPU control (spec/44_general_cpu.md)
  /-- R331: `DAA`. -/
  | daa
  /-- R332: `CPL`. -/
  | cpl
  /-- R333: `NEG` (`y = 0`) and its mirrors (`y` = 1..7). -/
  | neg (y : Fin 8)
  /-- R334: `CCF`. -/
  | ccf
  /-- R335: `SCF`. -/
  | scf
  /-- R336: `NOP`, nothing beyond the fetch. -/
  | nop
  /-- R337: `NOP*`, an unassigned `ED` opcode `op`, nothing beyond the two fetches. -/
  | nopEd (op : Byte)
  /-- R338: `HALT`, the `PC` afterwards by the open parameter `HALT_MODE` (D1). -/
  | halt
  /-- R339: `DI`. -/
  | di
  /-- R340: `EI`, at once (D24). -/
  | ei
  /-- R341: `IM 0` (`y` one of 0, 1, 4, 5); there is no interrupt-mode state (R46). -/
  | im0 (y : Fin 8)
  /-- R341: `IM 1` (`y` one of 2, 6); there is no interrupt-mode state (R46). -/
  | im1 (y : Fin 8)
  /-- R341: `IM 2` (`y` one of 3, 7); there is no interrupt-mode state (R46). -/
  | im2 (y : Fin 8)
  -- 16-bit arithmetic (spec/45_alu16.md)
  /-- R361: `ADD HL,ss`. -/
  | addHlSs (ss : Pair)
  /-- R362: `ADD IX,pp` (pair code 2 is `IX`). -/
  | addIxPp (pp : IdxPair)
  /-- R362: `ADD IY,pp` (pair code 2 is `IY`). -/
  | addIyPp (pp : IdxPair)
  /-- R363: `ADC HL,ss`. -/
  | adcHlSs (ss : Pair)
  /-- R364: `SBC HL,ss`. -/
  | sbcHlSs (ss : Pair)
  /-- R365: `INC ss`, no flag. -/
  | incSs (ss : Pair)
  /-- R366: `INC IX`, no flag. -/
  | incIx
  /-- R366: `INC IY`, no flag. -/
  | incIy
  /-- R367: `DEC ss`, no flag. -/
  | decSs (ss : Pair)
  /-- R368: `DEC IX`, no flag. -/
  | decIx
  /-- R368: `DEC IY`, no flag. -/
  | decIy
  -- rotates and shifts (spec/46_rotate_shift.md)
  /-- R391: `RLCA`, `fS fZ fPV` unchanged. -/
  | rlca
  /-- R392: `RRCA`, `fS fZ fPV` unchanged. -/
  | rrca
  /-- R393: `RLA`, `fS fZ fPV` unchanged. -/
  | rla
  /-- R394: `RRA`, `fS fZ fPV` unchanged. -/
  | rra
  /-- R401: `RLC r`. -/
  | rlcR (r : Reg8)
  /-- R401: `RLC (HL)`. -/
  | rlcAtHl
  /-- R401: `RLC (IX+d)`. -/
  | rlcAtIx (d : Byte)
  /-- R401: `RLC (IX+d),r`, the result also in `r8[z]`. -/
  | rlcAtIxR (d : Byte) (r : Reg8)
  /-- R401: `RLC (IY+d)`. -/
  | rlcAtIy (d : Byte)
  /-- R401: `RLC (IY+d),r`, the result also in `r8[z]`. -/
  | rlcAtIyR (d : Byte) (r : Reg8)
  /-- R402: `RRC r`. -/
  | rrcR (r : Reg8)
  /-- R402: `RRC (HL)`. -/
  | rrcAtHl
  /-- R402: `RRC (IX+d)`. -/
  | rrcAtIx (d : Byte)
  /-- R402: `RRC (IX+d),r`, the result also in `r8[z]`. -/
  | rrcAtIxR (d : Byte) (r : Reg8)
  /-- R402: `RRC (IY+d)`. -/
  | rrcAtIy (d : Byte)
  /-- R402: `RRC (IY+d),r`, the result also in `r8[z]`. -/
  | rrcAtIyR (d : Byte) (r : Reg8)
  /-- R403: `RL r`. -/
  | rlR (r : Reg8)
  /-- R403: `RL (HL)`. -/
  | rlAtHl
  /-- R403: `RL (IX+d)`. -/
  | rlAtIx (d : Byte)
  /-- R403: `RL (IX+d),r`, the result also in `r8[z]`. -/
  | rlAtIxR (d : Byte) (r : Reg8)
  /-- R403: `RL (IY+d)`. -/
  | rlAtIy (d : Byte)
  /-- R403: `RL (IY+d),r`, the result also in `r8[z]`. -/
  | rlAtIyR (d : Byte) (r : Reg8)
  /-- R404: `RR r`. -/
  | rrR (r : Reg8)
  /-- R404: `RR (HL)`. -/
  | rrAtHl
  /-- R404: `RR (IX+d)`. -/
  | rrAtIx (d : Byte)
  /-- R404: `RR (IX+d),r`, the result also in `r8[z]`. -/
  | rrAtIxR (d : Byte) (r : Reg8)
  /-- R404: `RR (IY+d)`. -/
  | rrAtIy (d : Byte)
  /-- R404: `RR (IY+d),r`, the result also in `r8[z]`. -/
  | rrAtIyR (d : Byte) (r : Reg8)
  /-- R405: `SLA r`. -/
  | slaR (r : Reg8)
  /-- R405: `SLA (HL)`. -/
  | slaAtHl
  /-- R405: `SLA (IX+d)`. -/
  | slaAtIx (d : Byte)
  /-- R405: `SLA (IX+d),r`, the result also in `r8[z]`. -/
  | slaAtIxR (d : Byte) (r : Reg8)
  /-- R405: `SLA (IY+d)`. -/
  | slaAtIy (d : Byte)
  /-- R405: `SLA (IY+d),r`, the result also in `r8[z]`. -/
  | slaAtIyR (d : Byte) (r : Reg8)
  /-- R406: `SRA r`. -/
  | sraR (r : Reg8)
  /-- R406: `SRA (HL)`. -/
  | sraAtHl
  /-- R406: `SRA (IX+d)`. -/
  | sraAtIx (d : Byte)
  /-- R406: `SRA (IX+d),r`, the result also in `r8[z]`. -/
  | sraAtIxR (d : Byte) (r : Reg8)
  /-- R406: `SRA (IY+d)`. -/
  | sraAtIy (d : Byte)
  /-- R406: `SRA (IY+d),r`, the result also in `r8[z]`. -/
  | sraAtIyR (d : Byte) (r : Reg8)
  /-- R407: `SLL r`. -/
  | sllR (r : Reg8)
  /-- R407: `SLL (HL)`. -/
  | sllAtHl
  /-- R407: `SLL (IX+d)`. -/
  | sllAtIx (d : Byte)
  /-- R407: `SLL (IX+d),r`, the result also in `r8[z]`. -/
  | sllAtIxR (d : Byte) (r : Reg8)
  /-- R407: `SLL (IY+d)`. -/
  | sllAtIy (d : Byte)
  /-- R407: `SLL (IY+d),r`, the result also in `r8[z]`. -/
  | sllAtIyR (d : Byte) (r : Reg8)
  /-- R408: `SRL r`. -/
  | srlR (r : Reg8)
  /-- R408: `SRL (HL)`. -/
  | srlAtHl
  /-- R408: `SRL (IX+d)`. -/
  | srlAtIx (d : Byte)
  /-- R408: `SRL (IX+d),r`, the result also in `r8[z]`. -/
  | srlAtIxR (d : Byte) (r : Reg8)
  /-- R408: `SRL (IY+d)`. -/
  | srlAtIy (d : Byte)
  /-- R408: `SRL (IY+d),r`, the result also in `r8[z]`. -/
  | srlAtIyR (d : Byte) (r : Reg8)
  /-- R410: `RLD`. -/
  | rld
  /-- R411: `RRD`. -/
  | rrd
  -- bit test, set, reset (spec/47_bit.md)
  /-- R445: `BIT b,r`. -/
  | bitBR (b : Fin 8) (r : Reg8)
  /-- R446: `BIT b,(HL)`. -/
  | bitBAtHl (b : Fin 8)
  /-- R447: `BIT b,(IX+d)` for every `z` (`z ≠ 6` an undocumented duplicate). -/
  | bitBAtIx (b : Fin 8) (d : Byte) (z : Fin 8)
  /-- R447: `BIT b,(IY+d)` for every `z` (`z ≠ 6` an undocumented duplicate). -/
  | bitBAtIy (b : Fin 8) (d : Byte) (z : Fin 8)
  /-- R451: `SET b,r`. -/
  | setBR (b : Fin 8) (r : Reg8)
  /-- R451: `SET b,(HL)`. -/
  | setBAtHl (b : Fin 8)
  /-- R451: `SET b,(IX+d)`. -/
  | setBAtIx (b : Fin 8) (d : Byte)
  /-- R451: `SET b,(IX+d),r`, the result also in `r8[z]`. -/
  | setBAtIxR (b : Fin 8) (d : Byte) (r : Reg8)
  /-- R451: `SET b,(IY+d)`. -/
  | setBAtIy (b : Fin 8) (d : Byte)
  /-- R451: `SET b,(IY+d),r`, the result also in `r8[z]`. -/
  | setBAtIyR (b : Fin 8) (d : Byte) (r : Reg8)
  /-- R452: `RES b,r`. -/
  | resBR (b : Fin 8) (r : Reg8)
  /-- R452: `RES b,(HL)`. -/
  | resBAtHl (b : Fin 8)
  /-- R452: `RES b,(IX+d)`. -/
  | resBAtIx (b : Fin 8) (d : Byte)
  /-- R452: `RES b,(IX+d),r`, the result also in `r8[z]`. -/
  | resBAtIxR (b : Fin 8) (d : Byte) (r : Reg8)
  /-- R452: `RES b,(IY+d)`. -/
  | resBAtIy (b : Fin 8) (d : Byte)
  /-- R452: `RES b,(IY+d),r`, the result also in `r8[z]`. -/
  | resBAtIyR (b : Fin 8) (d : Byte) (r : Reg8)
  -- jump, call, return (spec/48_control.md)
  /-- R471: `JP nn`. -/
  | jpNn (nn : Word)
  /-- R472: `JP cc,nn`. -/
  | jpCcNn (cc : Cond) (nn : Word)
  /-- R473: `JR e`. -/
  | jrE (e : Byte)
  /-- R474: `JR cc,e`. -/
  | jrCcE (cc : JrCond) (e : Byte)
  /-- R475: `JP (HL)`, the register's value. -/
  | jpAtHl
  /-- R476: `JP (IX)`. -/
  | jpAtIx
  /-- R476: `JP (IY)`. -/
  | jpAtIy
  /-- R477: `DJNZ e`. -/
  | djnzE (e : Byte)
  /-- R480: `CALL nn`. -/
  | callNn (nn : Word)
  /-- R481: `CALL cc,nn`. -/
  | callCcNn (cc : Cond) (nn : Word)
  /-- R482: `RET`. -/
  | ret
  /-- R483: `RET cc`. -/
  | retCc (cc : Cond)
  /-- R484: `RETI`, as `RET`; `IFF` unchanged (D8). -/
  | reti
  /-- R485: `RETN` (`y = 0`) and its mirrors (`y` = 2..7), as `RET`; `IFF` unchanged (D8). -/
  | retn (y : Fin 8)
  /-- R486: `RST 8·p`. -/
  | rstP (p : Fin 8)
  -- input and output (spec/49_io.md)
  /-- R521: `IN A,(n)`, no flag (C8). -/
  | inAAtN (n : Byte)
  /-- R522: `IN r,(C)`. -/
  | inRAtC (r : Reg8)
  /-- R523: `IN (C)`, flags only. -/
  | inAtC
  /-- R524: `OUT (n),A`. -/
  | outAtNA (n : Byte)
  /-- R525: `OUT (C),r`. -/
  | outAtCR (r : Reg8)
  /-- R526: `OUT (C),0`. -/
  | outAtC0
  /-- R531: `INI`. -/
  | ini
  /-- R532: `IND`. -/
  | ind
  /-- R533: `INIR`, one iteration a cycle (R260). -/
  | inir
  /-- R534: `INDR`, one iteration a cycle (R260). -/
  | indr
  /-- R535: `OUTI`. -/
  | outi
  /-- R536: `OUTD`. -/
  | outd
  /-- R537: `OTIR`, one iteration a cycle (R260). -/
  | otir
  /-- R538: `OTDR`, one iteration a cycle (R260). -/
  | otdr
  -- prefix bytes (spec/30_encoding.md)
  /-- R104: `CB`: the next byte is an opcode of the CB plane. -/
  | prefixCb
  /-- R102: `DD`: `pfx <- IX`, the next byte is looked up in the DD plane. -/
  | prefixDd
  /-- R104: `ED`: the next byte is an opcode of the ED plane. -/
  | prefixEd
  /-- R102: `FD`: `pfx <- IY`, the next byte is looked up in the FD plane. -/
  | prefixFd
  /-- R126: `CB` after `DD`: then `d`, then an opcode of the DDCB plane. -/
  | prefixDdCb
  /-- R102: `DD` after `DD`: the earlier one is discarded, `pfx <- IX`. -/
  | prefixDdAfterDd
  /-- R124: `ED` after `DD`: the earlier one has no effect. -/
  | prefixEdAfterDd
  /-- R102: `FD` after `DD`: the earlier one is discarded, `pfx <- IY`. -/
  | prefixFdAfterDd
  /-- R126: `CB` after `FD`: then `d`, then an opcode of the FDCB plane. -/
  | prefixFdCb
  /-- R102: `DD` after `FD`: the earlier one is discarded, `pfx <- IX`. -/
  | prefixDdAfterFd
  /-- R124: `ED` after `FD`: the earlier one has no effect. -/
  | prefixEdAfterFd
  /-- R102: `FD` after `FD`: the earlier one is discarded, `pfx <- IY`. -/
  | prefixFdAfterFd
  deriving DecidableEq, Repr

/-- The bytes that only select where decoding continues (the rows of format `prefix`). -/
def Instr.isPrefix : Instr → Bool
  | .prefixCb  | .prefixDd  | .prefixEd  | .prefixFd  | .prefixDdCb  | .prefixDdAfterDd  | .prefixEdAfterDd  | .prefixFdAfterDd  | .prefixFdCb  | .prefixDdAfterFd  | .prefixEdAfterFd  | .prefixFdAfterFd => true
  | _ => false

/-- The plane the byte after a prefix byte is looked up in; an instruction ends the cycle, and the next one starts in `base`. -/
def Instr.nextPlane : Instr → Plane
  | .prefixCb => .cb
  | .prefixDd => .dd
  | .prefixEd => .ed
  | .prefixFd => .fd
  | .prefixDdCb => .ddcb
  | .prefixDdAfterDd => .dd
  | .prefixEdAfterDd => .ed
  | .prefixFdAfterDd => .fd
  | .prefixFdCb => .fdcb
  | .prefixDdAfterFd => .dd
  | .prefixEdAfterFd => .ed
  | .prefixFdAfterFd => .fd
  | _ => .base

end Sys2Proof
end

