-- ==== Sys2Proof/Machine/State.lean ====
section
/-! DEFINITION. The state of the machine (spec/10_state.md R30), its reasons to stop, and the launch state (R52, R621). -/

namespace Sys2Proof.Machine

/-- The eight flags, independent bits (R30, R36). -/
structure Flags where
  s : Bool
  z : Bool
  y : Bool
  h : Bool
  x : Bool
  pv : Bool
  n : Bool
  c : Bool
  deriving DecidableEq, Repr

/-- `term_reason`, the eleven-valued tag (R48). -/
inductive TermReason
  | okNotRun | okTerm | okCtrlC
  | errBoot | errBdosArg | errSelect | errRoDisk | errRoFile | errHost | errLogic | errSignal
  deriving DecidableEq, Repr

/-- The memory: the cells that differ from the launch image, by rising address (the form is `Memory.wf` of Ops.lean). -/
abbrev Memory := List Host.Cell

/-- The whole state. The fields down to `mem` are the spec's (R30); `plane`, `signal`, `env`, `dma`,
`dpbAddr` and `alvAddr` are the model's own (log entries 6, 7, 8, 32, 2). A prime marks the shadow bank (R33). -/
structure State where
  a : Byte
  f : Flags
  b : Byte
  c : Byte
  d : Byte
  e : Byte
  h : Byte
  l : Byte
  a' : Byte
  f' : Flags
  b' : Byte
  c' : Byte
  d' : Byte
  e' : Byte
  h' : Byte
  l' : Byte
  ix : Word
  iy : Word
  sp : Word
  pc : Word
  i : Byte
  r : Byte
  iff : Bool
  latch : Word
  terminate : Bool
  termReason : TermReason
  mem : Memory
  /-- The plane the next byte is looked up in: `pfx` and the plane choice of R101, inside a cycle. -/
  plane : Plane
  /-- The environment's next move, a signal: the number of cycles before it is delivered, if one comes (R585). -/
  signal : Option Nat
  /-- The environment's own state (console, files, clock), as a token that `Config.environment` reads (R571). -/
  env : Nat
  /-- The environment's DMA address (R571, R573): where the 128-byte buffer of the file functions lies. -/
  dma : Word
  /-- Where the environment's disk parameter block and allocation vector lie (R573: BDOS 31 and 27), set by the launch. -/
  dpbAddr : Word
  alvAddr : Word
  deriving DecidableEq, Repr

/-- Why a step has no successor state. -/
inductive Fault
  /-- Raised by the cycle when every byte of memory is `DD` or `FD`: the cycle does not end (R641, U13: stuck). Safe: the hardware
  never reaches a cycle boundary either. -/
  | endlessPrefixes
  /-- Raised by the trap cycle when a handler that waits for console input does not return (R651, U14: stuck). Safe: the hardware waits for ever. -/
  | handlerBlocked
  deriving DecidableEq, Repr

/-- Why an instruction has no meaning in the model. -/
inductive Refusal
  /-- Raised by an arm of `exec` whose instruction has no meaning yet; no arm does. Safe. -/
  | notModelled (mnemonic : String)
  deriving DecidableEq, Repr

/-- What a meaning answers with. -/
abbrev Result := Host.Outcome State Fault Refusal

/-- All eight flags 0. -/
def Flags.clear : Flags := ⟨false, false, false, false, false, false, false, false⟩

/-- The launch state (R52, R621). `PC`, `terminate`, `term_reason` and the memory image (nothing listed: every byte reads as
`Memory.launch`) are the spec's. `SP` is the named open parameter. DESIGN CHOICE, log entry 1: every other register is 0, which the
spec leaves arbitrary. -/
def State.reset : State :=
  { a := 0, f := Flags.clear, b := 0, c := 0, d := 0, e := 0, h := 0, l := 0,
    a' := 0, f' := Flags.clear, b' := 0, c' := 0, d' := 0, e' := 0, h' := 0, l' := 0,
    ix := 0, iy := 0, sp := Config.resetLayout.spInit, pc := Config.launchPc, i := 0, r := 0, iff := false, latch := 0,
    terminate := false, termReason := .okNotRun, mem := [], plane := .base, signal := none, env := 0,
    dma := Config.defaultDma, dpbAddr := Config.resetLayout.dpbStart, alvAddr := Config.resetLayout.alvStart }

end Sys2Proof.Machine
end

