-- ==== Sys2Proof/Machine/Ops.lean ====
section
/-! DEFINITION. The named operations over memory and registers, and the trap with its return (spec/10_state.md, 20_memory.md,
60_exceptions.md R561 to R563). -/

namespace Sys2Proof.Machine

/-! ### Memory (R70 to R75) -/

/-- The launch image (R79, R622) of `Config.resetLayout` with no program: what an address that `mem` does not list holds. Bytes the source does not describe, and the
environment's data (`0004`, the FCBs, the command tail, DPB, ALV, the dummy error vectors), read as 0: DESIGN CHOICE, log entry 4. -/
def Memory.launch (a : Nat) : Byte :=
  if a < 8 then
    match a with
    | 0 => 0xC3
    | 1 => loByte Config.wbootTarget
    | 2 => hiByte Config.wbootTarget
    | 5 => 0xC3
    | 6 => loByte Config.bdosStart
    | 7 => hiByte Config.bdosStart
    | _ => 0
  else if a < Config.bdosStart.toNat then 0
  else if Config.magicAddress.toNat ≤ a then 0xC9
  else if a < Config.bdosStart.toNat + 3 then
    match a - Config.bdosStart.toNat with
    | 0 => 0xC3
    | 1 => loByte Config.magicAddress
    | _ => hiByte Config.magicAddress
  else if Config.biosVector.toNat ≤ a ∧ a < Config.biosVector.toNat + 54 then
    match (a - Config.biosVector.toNat) % 3 with
    | 0 => 0xC3
    | 1 => loByte (Config.magicAddress + 1 + BitVec.ofNat 16 ((a - Config.biosVector.toNat) / 3))
    | _ => hiByte (Config.magicAddress + 1 + BitVec.ofNat 16 ((a - Config.biosVector.toNat) / 3))
  else if Config.serialNumber.toNat ≤ a ∧ a < Config.serialNumber.toNat + 6 then
    match a - Config.serialNumber.toNat with
    | 0 => 0x00
    | 1 => 0x16
    | 2 => 0x00
    | 3 => 0xC0
    | 4 => 0xFF
    | _ => 0xEE
  else if a = Config.spInit.toNat then loByte Config.wbootReturn
  else if a = Config.spInit.toNat + 1 then hiByte Config.wbootReturn
  else 0

/-- The byte at a cell key (R71). -/
def Memory.get : Memory → Nat → Byte
  | [], a => Memory.launch a
  | (k, v) :: m, a => if k = a then v else Memory.get m a

/-- Drops every entry for a key. -/
def Memory.erase : Memory → Nat → Memory
  | [], _ => []
  | (k, v) :: m, a => if k = a then Memory.erase m a else (k, v) :: Memory.erase m a

/-- Lists a byte at its place in the order of the keys. -/
def Memory.insert : Memory → Nat → Byte → Memory
  | [], a, v => [(a, v)]
  | (k, w) :: m, a, v =>
    if k < a then (k, w) :: Memory.insert m a v
    else if k = a then (a, v) :: m
    else (a, v) :: (k, w) :: m

/-- Stores a byte (R72): a byte equal to what the launch image holds there is not listed. -/
def Memory.set (m : Memory) (a : Nat) (v : Byte) : Memory :=
  if v = Memory.launch a then Memory.erase m a else Memory.insert m a v

/-- Every key of the list is above `lo`, rising, inside the address space, and holds something other than the launch image. -/
def Memory.wfAbove : Option Nat → Memory → Bool
  | _, [] => true
  | lo, (k, v) :: m =>
    (match lo with
      | none => true
      | some j => decide (j < k)) &&
    decide (k < 65536) && decide (v ≠ Memory.launch k) && Memory.wfAbove (some k) m

/-- The canonical form: addresses strictly rising, no entry equal to what an unlisted address reads as. -/
def Memory.wf (m : Memory) : Bool := Memory.wfAbove none m

/-- `MemRead(a, 1)` (R71). -/
def State.readByte (s : State) (a : Word) : Byte := s.mem.get a.toNat

/-- `MemWrite(a, 1, v)` (R72): allowed at every address. -/
def State.writeByte (s : State) (a : Word) (v : Byte) : State := { s with mem := s.mem.set a.toNat v }

/-- `MemRead(a, 2)`: low byte at the lower address, the second address wraps (R73). -/
def State.readWord (s : State) (a : Word) : Word := joinBytes (s.readByte (a + 1)) (s.readByte a)

/-- `MemWrite(a, 2, w)` (R73). -/
def State.writeWord (s : State) (a : Word) (w : Word) : State := (s.writeByte a (loByte w)).writeByte (a + 1) (hiByte w)

/-! ### Registers (R32 to R36) -/

def State.setA (s : State) (v : Byte) : State := { s with a := v }
def State.setF (s : State) (f : Flags) : State := { s with f := f }
def State.setSp (s : State) (w : Word) : State := { s with sp := w }
def State.setPc (s : State) (w : Word) : State := { s with pc := w }

/-- `BC` (R32). -/
def State.bc (s : State) : Word := joinBytes s.b s.c
/-- `DE` (R32). -/
def State.de (s : State) : Word := joinBytes s.d s.e
/-- `HL` (R32). -/
def State.hl (s : State) : Word := joinBytes s.h s.l

/-- The byte `F`, bit 7 `fS` down to bit 0 `fC` (R36). -/
def Flags.toByte (f : Flags) : Byte :=
  BitVec.ofBool f.s ++ BitVec.ofBool f.z ++ BitVec.ofBool f.y ++ BitVec.ofBool f.h ++
    BitVec.ofBool f.x ++ BitVec.ofBool f.pv ++ BitVec.ofBool f.n ++ BitVec.ofBool f.c

/-- The flags a popped byte loads, all eight bits (R36, R213). -/
def Flags.ofByte (v : Byte) : Flags :=
  ⟨v.getLsbD 7, v.getLsbD 6, v.getLsbD 5, v.getLsbD 4, v.getLsbD 3, v.getLsbD 2, v.getLsbD 1, v.getLsbD 0⟩

/-- `AF` (R32, R211). -/
def State.af (s : State) : Word := joinBytes s.a s.f.toByte

/-- `r8[k]`, `k ≠ 6` (R110). -/
def State.reg8 (s : State) : Reg8 → Byte
  | .b => s.b
  | .c => s.c
  | .d => s.d
  | .e => s.e
  | .h => s.h
  | .l => s.l
  | .a => s.a

def State.setReg8 (s : State) (r : Reg8) (v : Byte) : State :=
  match r with
  | .b => { s with b := v }
  | .c => { s with c := v }
  | .d => { s with d := v }
  | .e => { s with e := v }
  | .h => { s with h := v }
  | .l => { s with l := v }
  | .a => { s with a := v }

/-- `rp[k]` (R111). -/
def State.pair (s : State) : Pair → Word
  | .bc => s.bc
  | .de => s.de
  | .hl => s.hl
  | .sp => s.sp

/-- A write to a pair writes both halves (R10). -/
def State.setPair (s : State) (p : Pair) (w : Word) : State :=
  match p with
  | .bc => { s with b := hiByte w, c := loByte w }
  | .de => { s with d := hiByte w, e := loByte w }
  | .hl => { s with h := hiByte w, l := loByte w }
  | .sp => { s with sp := w }

/-- `rp2[k]` (R112). -/
def State.stackPair (s : State) : StackPair → Word
  | .bc => s.bc
  | .de => s.de
  | .hl => s.hl
  | .af => s.af

/-- What `POP qq` writes (R213). -/
def State.setStackPair (s : State) (p : StackPair) (w : Word) : State :=
  match p with
  | .bc => { s with b := hiByte w, c := loByte w }
  | .de => { s with d := hiByte w, e := loByte w }
  | .hl => { s with h := hiByte w, l := loByte w }
  | .af => { s with a := hiByte w, f := Flags.ofByte (loByte w) }

/-- `IX` or `IY` (R34). -/
def State.index (s : State) : Index → Word
  | .ix => s.ix
  | .iy => s.iy

def State.setIndex (s : State) (xy : Index) (w : Word) : State :=
  match xy with
  | .ix => { s with ix := w }
  | .iy => { s with iy := w }

/-- `IXH`, `IXL`, `IYH`, `IYL` (R34). -/
def State.half (s : State) (xy : Index) (h : Half) : Byte :=
  match h with
  | .hi => hiByte (s.index xy)
  | .lo => loByte (s.index xy)

/-- The other half is unchanged (R166). -/
def State.setHalf (s : State) (xy : Index) (h : Half) (v : Byte) : State :=
  match h with
  | .hi => s.setIndex xy (joinBytes v (loByte (s.index xy)))
  | .lo => s.setIndex xy (joinBytes (hiByte (s.index xy)) v)

/-- The operand of `LD p,p'` (R165). -/
def State.idxReg8 (s : State) (xy : Index) : IdxReg8 → Byte
  | .b => s.b
  | .c => s.c
  | .d => s.d
  | .e => s.e
  | .hi => s.half xy .hi
  | .lo => s.half xy .lo
  | .a => s.a

def State.setIdxReg8 (s : State) (xy : Index) (p : IdxReg8) (v : Byte) : State :=
  match p with
  | .b => { s with b := v }
  | .c => { s with c := v }
  | .d => { s with d := v }
  | .e => { s with e := v }
  | .hi => s.setHalf xy .hi v
  | .lo => s.setHalf xy .lo v
  | .a => { s with a := v }

/-- The source of `ADD IX,pp` (R362). -/
def State.idxPair (s : State) (xy : Index) : IdxPair → Word
  | .bc => s.bc
  | .de => s.de
  | .xy => s.index xy
  | .sp => s.sp

/-- `EXX` (R243). -/
def State.swapBanks (s : State) : State :=
  { s with
    b := s.b', c := s.c', d := s.d', e := s.e', h := s.h', l := s.l',
    b' := s.b, c' := s.c, d' := s.d, e' := s.e, h' := s.h, l' := s.l }

/-! ### The stack and the program counter (R35, R40) -/

/-- A push: high byte at `SP−1`, low byte at `SP−2` (R35, R211). -/
def State.push (s : State) (w : Word) : State :=
  ((s.writeByte (s.sp - 1) (hiByte w)).writeByte (s.sp - 2) (loByte w)).setSp (s.sp - 2)

/-- `SP` after a pop; the word popped is `s.readWord s.sp` (R35, R213). -/
def State.popped (s : State) : State := s.setSp (s.sp + 2)

/-- The operation of `RET` (R482). -/
def State.popPc (s : State) : State := s.popped.setPc (s.readWord s.sp)

/-- The operation of `CALL` (R480): at execution `PC = PCn`. -/
def State.call (s : State) (target : Word) : State := (s.push s.pc).setPc target

/-- `PC <- u16(PCn + sext8(e))` (R473). -/
def State.jumpRelative (s : State) (e : Byte) : State := s.setPc (s.pc + sext8 e)

/-- `PC <- u16(PCn − 2)`, back to the `ED` byte (R260). -/
def State.repeatInstr (s : State) : State := s.setPc (s.pc - 2)

/-- The repeat mechanism of the block instructions: one iteration a cycle (R260). -/
def repeatBlock (again : State → Bool) (s : State) : State := if again s then s.repeatInstr else s

/-- `IncR()`: the low 7 bits count modulo 128, bit 7 is kept (R44). -/
def incR (r : Byte) : Byte := (r &&& 0x80) ||| ((r + 1) &&& 0x7F)

/-! ### The magic-page trap (R561 to R563) and the signal (R585) -/

/-- The reasons a handler may end the run with (R576). -/
inductive StopReason
  | okTerm | okCtrlC | errBoot | errBdosArg | errSelect | errRoDisk | errRoFile | errHost | errLogic
  deriving DecidableEq, Repr

def StopReason.toTermReason : StopReason → TermReason
  | .okTerm => .okTerm
  | .okCtrlC => .okCtrlC
  | .errBoot => .errBoot
  | .errBdosArg => .errBdosArg
  | .errSelect => .errSelect
  | .errRoDisk => .errRoDisk
  | .errRoFile => .errRoFile
  | .errHost => .errHost
  | .errLogic => .errLogic

/-- Everything a handler may write (R571): bytes of memory, `A B H L`, `terminate` with its reason; and the environment's own state, its
DMA address (if it sets one) among it. -/
structure TrapEffect where
  writes : List (Word × Byte)
  a : Byte
  b : Byte
  h : Byte
  l : Byte
  stop : Option StopReason
  env : Nat
  dma : Option Word
  deriving DecidableEq, Repr

/-- Stores in order. -/
def State.writeBytes (s : State) : List (Word × Byte) → State
  | [] => s
  | (a, v) :: ws => (s.writeByte a v).writeBytes ws

/-- `terminate <- 1` together with the reason (R48, R576). -/
def State.stopWith (s : State) (reason : TermReason) : State := { s with terminate := true, termReason := reason }

/-- What the handler leaves behind (R571, R572). -/
def State.applyTrap (s : State) (e : TrapEffect) : State :=
  let t := { s.writeBytes e.writes with a := e.a, b := e.b, h := e.h, l := e.l, env := e.env, dma := e.dma.getD s.dma }
  match e.stop with
  | none => t
  | some reason => t.stopWith reason.toTermReason

/-- The trap return: the operation of `RET`, after every handler (R563). -/
def trapReturn (s : State) : State := s.popPc

/-- Taking the trap: nothing is saved, `SP`, `R`, the flags and the mode stay, `PC` keeps the magic address while the handler runs
(R562); then the return (R563). -/
def takeTrap (e : TrapEffect) (s : State) : State := trapReturn (s.applyTrap e)

/-- The delivery of a signal between two cycles (R585). -/
def deliverSignal (s : State) : State := { s.stopWith .errSignal with signal := none }

end Sys2Proof.Machine
end

