-- ==== Sys2Proof/Machine/Flags.lean ====
section
/-! DEFINITION. Every flag computation of the spec, and the operations that give a result with its flags. -/

namespace Sys2Proof.Machine

/-- `parity(b)`: 1 when `b` has an even number of 1 bits (R8). -/
def parity (v : Byte) : Bool :=
  !(v.getLsbD 0 ^^ v.getLsbD 1 ^^ v.getLsbD 2 ^^ v.getLsbD 3 ^^ v.getLsbD 4 ^^ v.getLsbD 5 ^^ v.getLsbD 6 ^^ v.getLsbD 7)

/-- `SZYX(v)` (R12). -/
def Flags.szyx (f : Flags) (v : Byte) : Flags :=
  { f with s := v.getLsbD 7, z := v == 0, y := v.getLsbD 5, x := v.getLsbD 3 }

/-- `SZYXP(v)` (R12). -/
def Flags.szyxp (f : Flags) (v : Byte) : Flags := { f.szyx v with pv := parity v }

/-! ### 8-bit arithmetic and logic (R282 to R284, R293, R301, R302) -/

/-- `Add8(a, v, c)` (R282). -/
def Flags.add8 (a v : Byte) (c : Bool) : Byte × Flags :=
  let r := a + v + bitByte c
  (r,
    { s := r.getLsbD 7, z := r == 0, y := r.getLsbD 5, x := r.getLsbD 3,
      h := decide (0x0F < a.toNat % 16 + v.toNat % 16 + c.toNat),
      pv := (a.getLsbD 7 == v.getLsbD 7) && (r.getLsbD 7 != a.getLsbD 7),
      n := false,
      c := decide (0xFF < a.toNat + v.toNat + c.toNat) })

/-- `Sub8(a, v, c)` (R283): a difference is below 0 exactly when the minuend is the smaller. -/
def Flags.sub8 (a v : Byte) (c : Bool) : Byte × Flags :=
  let r := a - v - bitByte c
  (r,
    { s := r.getLsbD 7, z := r == 0, y := r.getLsbD 5, x := r.getLsbD 3,
      h := decide (a.toNat % 16 < v.toNat % 16 + c.toNat),
      pv := (a.getLsbD 7 != v.getLsbD 7) && (r.getLsbD 7 != a.getLsbD 7),
      n := true,
      c := decide (a.toNat < v.toNat + c.toNat) })

/-- `Logic(r, h)` (R284). -/
def Flags.logic (r : Byte) (h : Bool) : Flags :=
  { s := r.getLsbD 7, z := r == 0, y := r.getLsbD 5, x := r.getLsbD 3, h := h, pv := parity r, n := false, c := false }

/-- `CP`: the flags of `Sub8(A, s, 0)` with `fY`, `fX` from the operand (R293, D10). -/
def Flags.cp (a v : Byte) : Flags := { (Flags.sub8 a v false).2 with y := v.getLsbD 5, x := v.getLsbD 3 }

/-- The flags of `INC m`, from the old value; `fC` unchanged (R301). -/
def Flags.inc (f : Flags) (v : Byte) : Flags :=
  { f.szyx (v + 1) with h := v.toNat % 16 == 0x0F, pv := v == 0x7F, n := false }

/-- The flags of `DEC m`, from the old value; `fC` unchanged (R302). -/
def Flags.dec (f : Flags) (v : Byte) : Flags :=
  { f.szyx (v - 1) with h := v.toNat % 16 == 0, pv := v == 0x80, n := true }

/-! ### General purpose (R331 to R335, R174) -/

/-- `DAA` (R331). -/
def Flags.daa (f : Flags) (a : Byte) : Byte × Flags :=
  let low := a.toNat % 16
  let corr : Byte := (if f.h || decide (0x09 < low) then 0x06 else 0) ||| (if f.c || decide (0x99 < a.toNat) then 0x60 else 0)
  let r := if f.n then a - corr else a + corr
  (r,
    { f.szyxp r with
      h := if f.n then f.h && decide (low < 0x06) else decide (0x09 < low),
      c := f.c || decide (0x99 < a.toNat) })

/-- `CPL`: `fY`, `fX` of the new `A` (R332). -/
def Flags.cpl (f : Flags) (a : Byte) : Flags :=
  { f with h := true, n := true, y := (~~~a).getLsbD 5, x := (~~~a).getLsbD 3 }

/-- `CCF`: `fY`, `fX` from `A` (R334, D12). -/
def Flags.ccf (f : Flags) (a : Byte) : Flags :=
  { f with h := f.c, c := !f.c, n := false, y := a.getLsbD 5, x := a.getLsbD 3 }

/-- `SCF`: `fY`, `fX` from `A` (R335, D12). -/
def Flags.scf (f : Flags) (a : Byte) : Flags :=
  { f with c := true, h := false, n := false, y := a.getLsbD 5, x := a.getLsbD 3 }

/-- `LD A,I` and `LD A,R` (R174, R175, D9). -/
def Flags.loadIff (f : Flags) (v : Byte) (iff : Bool) : Flags := { f.szyx v with h := false, n := false, pv := iff }

/-! ### 16-bit arithmetic (R361 to R364) -/

/-- `ADD HL,ss`: `fS fZ fPV` unchanged (R361). -/
def Flags.add16 (f : Flags) (a v : Word) : Word × Flags :=
  let r := a + v
  (r,
    { f with
      h := decide (0x0FFF < a.toNat % 0x1000 + v.toNat % 0x1000),
      c := decide (0xFFFF < a.toNat + v.toNat),
      n := false, y := r.getLsbD 13, x := r.getLsbD 11 })

/-- `ADC HL,ss` (R363). -/
def Flags.adc16 (a v : Word) (c : Bool) : Word × Flags :=
  let r := a + v + BitVec.ofNat 16 c.toNat
  (r,
    { s := r.getLsbD 15, z := r == 0, y := r.getLsbD 13, x := r.getLsbD 11,
      h := decide (0x0FFF < a.toNat % 0x1000 + v.toNat % 0x1000 + c.toNat),
      pv := (a.getLsbD 15 == v.getLsbD 15) && (r.getLsbD 15 != a.getLsbD 15),
      n := false,
      c := decide (0xFFFF < a.toNat + v.toNat + c.toNat) })

/-- `SBC HL,ss` (R364). -/
def Flags.sbc16 (a v : Word) (c : Bool) : Word × Flags :=
  let r := a - v - BitVec.ofNat 16 c.toNat
  (r,
    { s := r.getLsbD 15, z := r == 0, y := r.getLsbD 13, x := r.getLsbD 11,
      h := decide (a.toNat % 0x1000 < v.toNat % 0x1000 + c.toNat),
      pv := (a.getLsbD 15 != v.getLsbD 15) && (r.getLsbD 15 != a.getLsbD 15),
      n := true,
      c := decide (a.toNat < v.toNat + c.toNat) })

/-! ### Rotates and shifts (R391 to R394, R400 to R408) -/

/-- `rot[0..7]` (R125). -/
inductive RotOp
  | rlc | rrc | rl | rr | sla | sra | sll | srl
  deriving DecidableEq, Repr

/-- The result and the bit shifted out of one rotate or shift, `c` the old `fC` (R401 to R408). -/
def RotOp.run (op : RotOp) (v : Byte) (c : Bool) : Byte × Bool :=
  match op with
  | .rlc => ((v <<< 1) ||| bitByte (v.getLsbD 7), v.getLsbD 7)
  | .rrc => ((v >>> 1) ||| (bitByte (v.getLsbD 0) <<< 7), v.getLsbD 0)
  | .rl => ((v <<< 1) ||| bitByte c, v.getLsbD 7)
  | .rr => ((v >>> 1) ||| (bitByte c <<< 7), v.getLsbD 0)
  | .sla => (v <<< 1, v.getLsbD 7)
  | .sra => ((v >>> 1) ||| (v &&& 0x80), v.getLsbD 0)
  | .sll => ((v <<< 1) ||| 1, v.getLsbD 7)
  | .srl => (v >>> 1, v.getLsbD 0)

/-- The flags of the accumulator rotates: `fS fZ fPV` unchanged (R391 to R394). -/
def Flags.rotateA (f : Flags) (r : Byte) (c : Bool) : Flags :=
  { f with c := c, h := false, n := false, y := r.getLsbD 5, x := r.getLsbD 3 }

/-- The flags of the CB rotates and shifts (R400). -/
def Flags.rotate (f : Flags) (r : Byte) (c : Bool) : Flags := { f.szyxp r with h := false, n := false, c := c }

/-- The flags of `RLD` and `RRD` on the new `A` (R410), and of `IN r,(C)` (R522). -/
def Flags.input (f : Flags) (v : Byte) : Flags := { f.szyxp v with h := false, n := false }

/-! ### Bit test (R441, R445 to R447) -/

/-- The flags every `BIT` form sets, `fY` and `fX` apart (R441). -/
def Flags.bit (f : Flags) (v : Byte) (b : Fin 8) (y x : Bool) : Flags :=
  let t := v.getLsbD b.val
  { f with z := !t, pv := !t, s := decide (b.val = 7) && t, h := true, n := false, y := y, x := x }

/-- `BIT b,r`: `fY`, `fX` from the register (R445). -/
def Flags.bitPlain (f : Flags) (v : Byte) (b : Fin 8) : Flags := f.bit v b (v.getLsbD 5) (v.getLsbD 3)

/-- `BIT b,(HL)`: `fY`, `fX` from the byte read (R446, the spec's decision D11; U5 calls them a parameter: log entry 11). -/
def Flags.bitAtHl (f : Flags) (v : Byte) (b : Fin 8) : Flags := f.bit v b (v.getLsbD 5) (v.getLsbD 3)

/-- `BIT b,(IX+d)`: `fY`, `fX` from bits 13 and 11 of the latch (R447). -/
def Flags.bitLatch (f : Flags) (v : Byte) (b : Fin 8) (latch : Word) : Flags :=
  f.bit v b (latch.getLsbD 13) (latch.getLsbD 11)

/-! ### Block instructions (R250, R254, R530) -/

/-- `LDI` and `LDD`: `n = t + A`, `fPV` from the decremented `BC` (R250). -/
def Flags.blockLoad (f : Flags) (t a : Byte) (bc : Word) : Flags :=
  let n := t + a
  { f with h := false, n := false, pv := bc != 0, y := n.getLsbD 1, x := n.getLsbD 3 }

/-- `CPI` and `CPD`: `r = A − t`, `n = r − hb` (R254). -/
def Flags.blockCompare (f : Flags) (t a : Byte) (bc : Word) : Flags :=
  let r := a - t
  let hb := decide (a.toNat % 16 < t.toNat % 16)
  let n := r - bitByte hb
  { f with s := r.getLsbD 7, z := r == 0, h := hb, n := true, pv := bc != 0, y := n.getLsbD 1, x := n.getLsbD 3 }

/-- `BlockIOFlags(t, k)` on the decremented `B` (R530, the spec's decision D13; U6 calls `fH fPV fN fC` a parameter: log
entry 12). -/
def Flags.blockIo (f : Flags) (b t : Byte) (k : Nat) : Flags :=
  { f.szyx b with
    n := t.getLsbD 7, h := decide (0xFF < k), c := decide (0xFF < k), pv := parity (BitVec.ofNat 8 (k % 8) ^^^ b) }

end Sys2Proof.Machine

namespace Sys2Proof

/-- The flag test of a condition code (R113). -/
def Cond.holds (cc : Cond) (f : Machine.Flags) : Bool :=
  match cc with
  | .nz => !f.z
  | .z => f.z
  | .nc => !f.c
  | .c => f.c
  | .po => !f.pv
  | .pe => f.pv
  | .p => !f.s
  | .m => f.s

/-- The flag test of `JR cc,e` (R113, R474). -/
def JrCond.holds (cc : JrCond) (f : Machine.Flags) : Bool :=
  match cc with
  | .nz => !f.z
  | .z => f.z
  | .nc => !f.c
  | .c => f.c

end Sys2Proof
end

