-- ==== Sys2Proof/Machine/Operands.lean ====
section
/-! DEFINITION. The operand forms (R115, R116, R285, R300, R400, R450): a register, the cell `(HL)`, an immediate, an index half, the
cell `(IX+d)` or `(IY+d)`. -/

namespace Sys2Proof.Machine

/-- An 8-bit operand. -/
inductive Operand
  | reg (r : Reg8)
  | atHl
  | imm (n : Byte)
  | half (xy : Index) (h : Half)
  | atIndexed (xy : Index) (d : Byte)
  deriving DecidableEq, Repr

/-- `EA = u16(XY + sext8(d))` (R115). -/
def State.ea (s : State) (xy : Index) (d : Byte) : Word := s.index xy + sext8 d

/-- Computing `EA` also sets `LATCH <- EA` (R47, R115). -/
def State.latchEa (s : State) (xy : Index) (d : Byte) : State := { s with latch := s.ea xy d }

/-- The state once the operand is located: only an indexed operand changes it, by its latch. -/
def State.locate (s : State) : Operand → State
  | .atIndexed xy d => s.latchEa xy d
  | _ => s

/-- The operand's value. -/
def State.load (s : State) : Operand → Byte
  | .reg r => s.reg8 r
  | .atHl => s.readByte s.hl
  | .imm n => n
  | .half xy h => s.half xy h
  | .atIndexed xy d => s.readByte (s.ea xy d)

/-- A write to the operand; no instruction writes an immediate. -/
def State.store (s : State) (o : Operand) (v : Byte) : State :=
  match o with
  | .reg r => s.setReg8 r v
  | .atHl => s.writeByte s.hl v
  | .imm _ => s
  | .half xy h => s.setHalf xy h v
  | .atIndexed xy d => s.writeByte (s.ea xy d) v

/-- `LD r,(IX+d)` (R154). -/
def loadIndexed (xy : Index) (r : Reg8) (d : Byte) (s : State) : State :=
  (s.latchEa xy d).setReg8 r (s.load (.atIndexed xy d))

/-- `LD (IX+d),v` (R156, R158). -/
def storeIndexed (xy : Index) (d : Byte) (v : Byte) (s : State) : State := (s.latchEa xy d).store (.atIndexed xy d) v

/-- The direction a block instruction moves its pointers in. -/
inductive Direction
  | up | down
  deriving DecidableEq, Repr

def Direction.move (dir : Direction) (w : Word) : Word :=
  match dir with
  | .up => w + 1
  | .down => w - 1

end Sys2Proof.Machine
end

