-- ==== Sys2Proof/Machine/Alu16.lean ====
section
/-! DEFINITION. The 16-bit arithmetic group (spec/45_alu16.md). -/

namespace Sys2Proof.Machine

/-- `ADD HL,ss` (R361). -/
def addHl (v : Word) (s : State) : State := (s.setPair .hl (s.f.add16 s.hl v).1).setF (s.f.add16 s.hl v).2

/-- `ADD IX,pp`, `ADD IY,rr` (R362). -/
def addIndex (xy : Index) (v : Word) (s : State) : State :=
  (s.setIndex xy (s.f.add16 (s.index xy) v).1).setF (s.f.add16 (s.index xy) v).2

/-- `ADC HL,ss` (R363). -/
def adcHl (v : Word) (s : State) : State := (s.setPair .hl (Flags.adc16 s.hl v s.f.c).1).setF (Flags.adc16 s.hl v s.f.c).2

/-- `SBC HL,ss` (R364). -/
def sbcHl (v : Word) (s : State) : State := (s.setPair .hl (Flags.sbc16 s.hl v s.f.c).1).setF (Flags.sbc16 s.hl v s.f.c).2

/-- R361: `ADD HL,ss`. -/
def execAddHlSs (ss : Pair) (s : State) : Result :=
  .next (addHl (s.pair ss) s)

/-- R362: `ADD IX,pp` (pair code 2 is `IX`). -/
def execAddIxPp (pp : IdxPair) (s : State) : Result :=
  .next (addIndex .ix (s.idxPair .ix pp) s)

/-- R362: `ADD IY,pp` (pair code 2 is `IY`). -/
def execAddIyPp (pp : IdxPair) (s : State) : Result :=
  .next (addIndex .iy (s.idxPair .iy pp) s)

/-- R363: `ADC HL,ss`. -/
def execAdcHlSs (ss : Pair) (s : State) : Result :=
  .next (adcHl (s.pair ss) s)

/-- R364: `SBC HL,ss`. -/
def execSbcHlSs (ss : Pair) (s : State) : Result :=
  .next (sbcHl (s.pair ss) s)

/-- R365: `INC ss`, no flag. -/
def execIncSs (ss : Pair) (s : State) : Result :=
  .next (s.setPair ss (s.pair ss + 1))

/-- R366: `INC IX`, no flag. -/
def execIncIx (s : State) : Result :=
  .next (s.setIndex .ix (s.index .ix + 1))

/-- R366: `INC IY`, no flag. -/
def execIncIy (s : State) : Result :=
  .next (s.setIndex .iy (s.index .iy + 1))

/-- R367: `DEC ss`, no flag. -/
def execDecSs (ss : Pair) (s : State) : Result :=
  .next (s.setPair ss (s.pair ss - 1))

/-- R368: `DEC IX`, no flag. -/
def execDecIx (s : State) : Result :=
  .next (s.setIndex .ix (s.index .ix - 1))

/-- R368: `DEC IY`, no flag. -/
def execDecIy (s : State) : Result :=
  .next (s.setIndex .iy (s.index .iy - 1))

end Sys2Proof.Machine
end

