-- ==== Sys2Proof/Machine/Alu8.lean ====
section
/-! DEFINITION. The 8-bit arithmetic and logic group (spec/43_alu8.md). -/

namespace Sys2Proof.Machine

/-- `alu[0..7]` (R285). -/
inductive AluOp
  | addOp | adcOp | subOp | sbcOp | andOp | xorOp | orOp | cpOp
  deriving DecidableEq, Repr

/-- The new `A` and flags of an accumulator operation with source `v` (R286 to R293). -/
def AluOp.run (op : AluOp) (a v : Byte) (f : Flags) : Byte × Flags :=
  match op with
  | .addOp => Flags.add8 a v false
  | .adcOp => Flags.add8 a v f.c
  | .subOp => Flags.sub8 a v false
  | .sbcOp => Flags.sub8 a v f.c
  | .andOp => (a &&& v, Flags.logic (a &&& v) true)
  | .xorOp => (a ^^^ v, Flags.logic (a ^^^ v) false)
  | .orOp => (a ||| v, Flags.logic (a ||| v) false)
  | .cpOp => (a, Flags.cp a v)

/-- An accumulator operation on any source form (R285). -/
def alu (op : AluOp) (o : Operand) (s : State) : State :=
  { s.locate o with a := (op.run s.a (s.load o) s.f).1, f := (op.run s.a (s.load o) s.f).2 }

/-- `INC m` on any form (R300, R301). -/
def incOperand (o : Operand) (s : State) : State := ((s.locate o).store o (s.load o + 1)).setF (s.f.inc (s.load o))

/-- `DEC m` on any form (R300, R302). -/
def decOperand (o : Operand) (s : State) : State := ((s.locate o).store o (s.load o - 1)).setF (s.f.dec (s.load o))

/-- R286: `ADD A,r`. -/
def execAddAR (r : Reg8) (s : State) : Result :=
  .next (alu .addOp (.reg r) s)

/-- R286: `ADD A,(HL)`. -/
def execAddAAtHl (s : State) : Result :=
  .next (alu .addOp .atHl s)

/-- R286: `ADD A,n`. -/
def execAddAN (n : Byte) (s : State) : Result :=
  .next (alu .addOp (.imm n) s)

/-- R286: `ADD A,IXH`, `ADD A,IXL`. -/
def execAddAIxh (h : Half) (s : State) : Result :=
  .next (alu .addOp (.half .ix h) s)

/-- R286: `ADD A,(IX+d)`. -/
def execAddAAtIx (d : Byte) (s : State) : Result :=
  .next (alu .addOp (.atIndexed .ix d) s)

/-- R286: `ADD A,IYH`, `ADD A,IYL`. -/
def execAddAIyh (h : Half) (s : State) : Result :=
  .next (alu .addOp (.half .iy h) s)

/-- R286: `ADD A,(IY+d)`. -/
def execAddAAtIy (d : Byte) (s : State) : Result :=
  .next (alu .addOp (.atIndexed .iy d) s)

/-- R287: `ADC A,r`. -/
def execAdcAR (r : Reg8) (s : State) : Result :=
  .next (alu .adcOp (.reg r) s)

/-- R287: `ADC A,(HL)`. -/
def execAdcAAtHl (s : State) : Result :=
  .next (alu .adcOp .atHl s)

/-- R287: `ADC A,n`. -/
def execAdcAN (n : Byte) (s : State) : Result :=
  .next (alu .adcOp (.imm n) s)

/-- R287: `ADC A,IXH`, `ADC A,IXL`. -/
def execAdcAIxh (h : Half) (s : State) : Result :=
  .next (alu .adcOp (.half .ix h) s)

/-- R287: `ADC A,(IX+d)`. -/
def execAdcAAtIx (d : Byte) (s : State) : Result :=
  .next (alu .adcOp (.atIndexed .ix d) s)

/-- R287: `ADC A,IYH`, `ADC A,IYL`. -/
def execAdcAIyh (h : Half) (s : State) : Result :=
  .next (alu .adcOp (.half .iy h) s)

/-- R287: `ADC A,(IY+d)`. -/
def execAdcAAtIy (d : Byte) (s : State) : Result :=
  .next (alu .adcOp (.atIndexed .iy d) s)

/-- R288: `SUB r`. -/
def execSubR (r : Reg8) (s : State) : Result :=
  .next (alu .subOp (.reg r) s)

/-- R288: `SUB (HL)`. -/
def execSubAtHl (s : State) : Result :=
  .next (alu .subOp .atHl s)

/-- R288: `SUB n`. -/
def execSubN (n : Byte) (s : State) : Result :=
  .next (alu .subOp (.imm n) s)

/-- R288: `SUB IXH`, `SUB IXL`. -/
def execSubIxh (h : Half) (s : State) : Result :=
  .next (alu .subOp (.half .ix h) s)

/-- R288: `SUB (IX+d)`. -/
def execSubAtIx (d : Byte) (s : State) : Result :=
  .next (alu .subOp (.atIndexed .ix d) s)

/-- R288: `SUB IYH`, `SUB IYL`. -/
def execSubIyh (h : Half) (s : State) : Result :=
  .next (alu .subOp (.half .iy h) s)

/-- R288: `SUB (IY+d)`. -/
def execSubAtIy (d : Byte) (s : State) : Result :=
  .next (alu .subOp (.atIndexed .iy d) s)

/-- R289: `SBC A,r`. -/
def execSbcAR (r : Reg8) (s : State) : Result :=
  .next (alu .sbcOp (.reg r) s)

/-- R289: `SBC A,(HL)`. -/
def execSbcAAtHl (s : State) : Result :=
  .next (alu .sbcOp .atHl s)

/-- R289: `SBC A,n`. -/
def execSbcAN (n : Byte) (s : State) : Result :=
  .next (alu .sbcOp (.imm n) s)

/-- R289: `SBC A,IXH`, `SBC A,IXL`. -/
def execSbcAIxh (h : Half) (s : State) : Result :=
  .next (alu .sbcOp (.half .ix h) s)

/-- R289: `SBC A,(IX+d)`. -/
def execSbcAAtIx (d : Byte) (s : State) : Result :=
  .next (alu .sbcOp (.atIndexed .ix d) s)

/-- R289: `SBC A,IYH`, `SBC A,IYL`. -/
def execSbcAIyh (h : Half) (s : State) : Result :=
  .next (alu .sbcOp (.half .iy h) s)

/-- R289: `SBC A,(IY+d)`. -/
def execSbcAAtIy (d : Byte) (s : State) : Result :=
  .next (alu .sbcOp (.atIndexed .iy d) s)

/-- R290: `AND r`. -/
def execAndR (r : Reg8) (s : State) : Result :=
  .next (alu .andOp (.reg r) s)

/-- R290: `AND (HL)`. -/
def execAndAtHl (s : State) : Result :=
  .next (alu .andOp .atHl s)

/-- R290: `AND n`. -/
def execAndN (n : Byte) (s : State) : Result :=
  .next (alu .andOp (.imm n) s)

/-- R290: `AND IXH`, `AND IXL`. -/
def execAndIxh (h : Half) (s : State) : Result :=
  .next (alu .andOp (.half .ix h) s)

/-- R290: `AND (IX+d)`. -/
def execAndAtIx (d : Byte) (s : State) : Result :=
  .next (alu .andOp (.atIndexed .ix d) s)

/-- R290: `AND IYH`, `AND IYL`. -/
def execAndIyh (h : Half) (s : State) : Result :=
  .next (alu .andOp (.half .iy h) s)

/-- R290: `AND (IY+d)`. -/
def execAndAtIy (d : Byte) (s : State) : Result :=
  .next (alu .andOp (.atIndexed .iy d) s)

/-- R291: `XOR r`. -/
def execXorR (r : Reg8) (s : State) : Result :=
  .next (alu .xorOp (.reg r) s)

/-- R291: `XOR (HL)`. -/
def execXorAtHl (s : State) : Result :=
  .next (alu .xorOp .atHl s)

/-- R291: `XOR n`. -/
def execXorN (n : Byte) (s : State) : Result :=
  .next (alu .xorOp (.imm n) s)

/-- R291: `XOR IXH`, `XOR IXL`. -/
def execXorIxh (h : Half) (s : State) : Result :=
  .next (alu .xorOp (.half .ix h) s)

/-- R291: `XOR (IX+d)`. -/
def execXorAtIx (d : Byte) (s : State) : Result :=
  .next (alu .xorOp (.atIndexed .ix d) s)

/-- R291: `XOR IYH`, `XOR IYL`. -/
def execXorIyh (h : Half) (s : State) : Result :=
  .next (alu .xorOp (.half .iy h) s)

/-- R291: `XOR (IY+d)`. -/
def execXorAtIy (d : Byte) (s : State) : Result :=
  .next (alu .xorOp (.atIndexed .iy d) s)

/-- R292: `OR r`. -/
def execOrR (r : Reg8) (s : State) : Result :=
  .next (alu .orOp (.reg r) s)

/-- R292: `OR (HL)`. -/
def execOrAtHl (s : State) : Result :=
  .next (alu .orOp .atHl s)

/-- R292: `OR n`. -/
def execOrN (n : Byte) (s : State) : Result :=
  .next (alu .orOp (.imm n) s)

/-- R292: `OR IXH`, `OR IXL`. -/
def execOrIxh (h : Half) (s : State) : Result :=
  .next (alu .orOp (.half .ix h) s)

/-- R292: `OR (IX+d)`. -/
def execOrAtIx (d : Byte) (s : State) : Result :=
  .next (alu .orOp (.atIndexed .ix d) s)

/-- R292: `OR IYH`, `OR IYL`. -/
def execOrIyh (h : Half) (s : State) : Result :=
  .next (alu .orOp (.half .iy h) s)

/-- R292: `OR (IY+d)`. -/
def execOrAtIy (d : Byte) (s : State) : Result :=
  .next (alu .orOp (.atIndexed .iy d) s)

/-- R293: `CP r`. -/
def execCpR (r : Reg8) (s : State) : Result :=
  .next (alu .cpOp (.reg r) s)

/-- R293: `CP (HL)`. -/
def execCpAtHl (s : State) : Result :=
  .next (alu .cpOp .atHl s)

/-- R293: `CP n`. -/
def execCpN (n : Byte) (s : State) : Result :=
  .next (alu .cpOp (.imm n) s)

/-- R293: `CP IXH`, `CP IXL`. -/
def execCpIxh (h : Half) (s : State) : Result :=
  .next (alu .cpOp (.half .ix h) s)

/-- R293: `CP (IX+d)`. -/
def execCpAtIx (d : Byte) (s : State) : Result :=
  .next (alu .cpOp (.atIndexed .ix d) s)

/-- R293: `CP IYH`, `CP IYL`. -/
def execCpIyh (h : Half) (s : State) : Result :=
  .next (alu .cpOp (.half .iy h) s)

/-- R293: `CP (IY+d)`. -/
def execCpAtIy (d : Byte) (s : State) : Result :=
  .next (alu .cpOp (.atIndexed .iy d) s)

/-- R301: `INC r`. -/
def execIncR (r : Reg8) (s : State) : Result :=
  .next (incOperand (.reg r) s)

/-- R301: `INC (HL)`. -/
def execIncAtHl (s : State) : Result :=
  .next (incOperand .atHl s)

/-- R301: `INC IXH`, `INC IXL`. -/
def execIncIxh (h : Half) (s : State) : Result :=
  .next (incOperand (.half .ix h) s)

/-- R301: `INC (IX+d)`. -/
def execIncAtIx (d : Byte) (s : State) : Result :=
  .next (incOperand (.atIndexed .ix d) s)

/-- R301: `INC IYH`, `INC IYL`. -/
def execIncIyh (h : Half) (s : State) : Result :=
  .next (incOperand (.half .iy h) s)

/-- R301: `INC (IY+d)`. -/
def execIncAtIy (d : Byte) (s : State) : Result :=
  .next (incOperand (.atIndexed .iy d) s)

/-- R302: `DEC r`. -/
def execDecR (r : Reg8) (s : State) : Result :=
  .next (decOperand (.reg r) s)

/-- R302: `DEC (HL)`. -/
def execDecAtHl (s : State) : Result :=
  .next (decOperand .atHl s)

/-- R302: `DEC IXH`, `DEC IXL`. -/
def execDecIxh (h : Half) (s : State) : Result :=
  .next (decOperand (.half .ix h) s)

/-- R302: `DEC (IX+d)`. -/
def execDecAtIx (d : Byte) (s : State) : Result :=
  .next (decOperand (.atIndexed .ix d) s)

/-- R302: `DEC IYH`, `DEC IYL`. -/
def execDecIyh (h : Half) (s : State) : Result :=
  .next (decOperand (.half .iy h) s)

/-- R302: `DEC (IY+d)`. -/
def execDecAtIy (d : Byte) (s : State) : Result :=
  .next (decOperand (.atIndexed .iy d) s)

end Sys2Proof.Machine
end

