-- ==== Sys2Proof/Machine/BitOps.lean ====
section
/-! DEFINITION. The bit test, set and reset group (spec/47_bit.md). -/

namespace Sys2Proof.Machine

/-- `BIT b,(IX+d)`: the latch is the instruction's own `EA` (R447). -/
def bitIndexed (xy : Index) (b : Fin 8) (d : Byte) (s : State) : State :=
  (s.latchEa xy d).setF (s.f.bitLatch (s.load (.atIndexed xy d)) b (s.latchEa xy d).latch)

/-- `v | (1 << b)` (R451). -/
def setBit (b : Fin 8) (v : Byte) : Byte := v ||| ((1 : Byte) <<< b.val)

/-- `v & u8(~(1 << b))` (R452). -/
def resetBit (b : Fin 8) (v : Byte) : Byte := v &&& ~~~((1 : Byte) <<< b.val)

/-- `SET` and `RES` on a register or a cell (R450). -/
def modifyBit (change : Byte → Byte) (o : Operand) (s : State) : State := (s.locate o).store o (change (s.load o))

/-- The copy form: the result also goes to `r8[z]` (R126, R450). -/
def modifyBitCopy (change : Byte → Byte) (xy : Index) (d : Byte) (r : Reg8) (s : State) : State :=
  (modifyBit change (.atIndexed xy d) s).setReg8 r (change (s.load (.atIndexed xy d)))

/-- R445: `BIT b,r`. -/
def execBitBR (b : Fin 8) (r : Reg8) (s : State) : Result :=
  .next ({ s with f := Flags.bitPlain s.f (s.reg8 r) b })

/-- R446: `BIT b,(HL)`. -/
def execBitBAtHl (b : Fin 8) (s : State) : Result :=
  .next ({ s with f := Flags.bitAtHl s.f (s.readByte s.hl) b })

/-- R447: `BIT b,(IX+d)` for every `z` (`z ≠ 6` an undocumented duplicate). -/
def execBitBAtIx (b : Fin 8) (d : Byte) (_z : Fin 8) (s : State) : Result :=
  .next (bitIndexed .ix b d s)

/-- R447: `BIT b,(IY+d)` for every `z` (`z ≠ 6` an undocumented duplicate). -/
def execBitBAtIy (b : Fin 8) (d : Byte) (_z : Fin 8) (s : State) : Result :=
  .next (bitIndexed .iy b d s)

/-- R451: `SET b,r`. -/
def execSetBR (b : Fin 8) (r : Reg8) (s : State) : Result :=
  .next (modifyBit (setBit b) (.reg r) s)

/-- R451: `SET b,(HL)`. -/
def execSetBAtHl (b : Fin 8) (s : State) : Result :=
  .next (modifyBit (setBit b) .atHl s)

/-- R451: `SET b,(IX+d)`. -/
def execSetBAtIx (b : Fin 8) (d : Byte) (s : State) : Result :=
  .next (modifyBit (setBit b) (.atIndexed .ix d) s)

/-- R451: `SET b,(IX+d),r`, the result also in `r8[z]`. -/
def execSetBAtIxR (b : Fin 8) (d : Byte) (r : Reg8) (s : State) : Result :=
  .next (modifyBitCopy (setBit b) .ix d r s)

/-- R451: `SET b,(IY+d)`. -/
def execSetBAtIy (b : Fin 8) (d : Byte) (s : State) : Result :=
  .next (modifyBit (setBit b) (.atIndexed .iy d) s)

/-- R451: `SET b,(IY+d),r`, the result also in `r8[z]`. -/
def execSetBAtIyR (b : Fin 8) (d : Byte) (r : Reg8) (s : State) : Result :=
  .next (modifyBitCopy (setBit b) .iy d r s)

/-- R452: `RES b,r`. -/
def execResBR (b : Fin 8) (r : Reg8) (s : State) : Result :=
  .next (modifyBit (resetBit b) (.reg r) s)

/-- R452: `RES b,(HL)`. -/
def execResBAtHl (b : Fin 8) (s : State) : Result :=
  .next (modifyBit (resetBit b) .atHl s)

/-- R452: `RES b,(IX+d)`. -/
def execResBAtIx (b : Fin 8) (d : Byte) (s : State) : Result :=
  .next (modifyBit (resetBit b) (.atIndexed .ix d) s)

/-- R452: `RES b,(IX+d),r`, the result also in `r8[z]`. -/
def execResBAtIxR (b : Fin 8) (d : Byte) (r : Reg8) (s : State) : Result :=
  .next (modifyBitCopy (resetBit b) .ix d r s)

/-- R452: `RES b,(IY+d)`. -/
def execResBAtIy (b : Fin 8) (d : Byte) (s : State) : Result :=
  .next (modifyBit (resetBit b) (.atIndexed .iy d) s)

/-- R452: `RES b,(IY+d),r`, the result also in `r8[z]`. -/
def execResBAtIyR (b : Fin 8) (d : Byte) (r : Reg8) (s : State) : Result :=
  .next (modifyBitCopy (resetBit b) .iy d r s)

end Sys2Proof.Machine
end

