-- ==== Sys2Proof/Machine/Control.lean ====
section
/-! DEFINITION. The jump, call and return group (spec/48_control.md). -/

namespace Sys2Proof.Machine

/-- `DJNZ e`: no flag (R477). -/
def decrementAndJump (e : Byte) (s : State) : State :=
  let t := s.setReg8 .b (s.b - 1)
  if s.b - 1 = 0 then t else t.jumpRelative e

/-- R471: `JP nn`. -/
def execJpNn (nn : Word) (s : State) : Result :=
  .next (s.setPc nn)

/-- R472: `JP cc,nn`. -/
def execJpCcNn (cc : Cond) (nn : Word) (s : State) : Result :=
  .next (if cc.holds s.f then s.setPc nn else s)

/-- R473: `JR e`. -/
def execJrE (e : Byte) (s : State) : Result :=
  .next (s.jumpRelative e)

/-- R474: `JR cc,e`. -/
def execJrCcE (cc : JrCond) (e : Byte) (s : State) : Result :=
  .next (if cc.holds s.f then s.jumpRelative e else s)

/-- R475: `JP (HL)`, the register's value. -/
def execJpAtHl (s : State) : Result :=
  .next (s.setPc s.hl)

/-- R476: `JP (IX)`. -/
def execJpAtIx (s : State) : Result :=
  .next (s.setPc (s.index .ix))

/-- R476: `JP (IY)`. -/
def execJpAtIy (s : State) : Result :=
  .next (s.setPc (s.index .iy))

/-- R477: `DJNZ e`. -/
def execDjnzE (e : Byte) (s : State) : Result :=
  .next (decrementAndJump e s)

/-- R480: `CALL nn`. -/
def execCallNn (nn : Word) (s : State) : Result :=
  .next (s.call nn)

/-- R481: `CALL cc,nn`. -/
def execCallCcNn (cc : Cond) (nn : Word) (s : State) : Result :=
  .next (if cc.holds s.f then s.call nn else s)

/-- R482: `RET`. -/
def execRet (s : State) : Result :=
  .next (s.popPc)

/-- R483: `RET cc`. -/
def execRetCc (cc : Cond) (s : State) : Result :=
  .next (if cc.holds s.f then s.popPc else s)

/-- R484: `RETI`, as `RET`; `IFF` unchanged (D8). -/
def execReti (s : State) : Result :=
  .next (s.popPc)

/-- R485: `RETN` (`y = 0`) and its mirrors (`y` = 2..7), as `RET`; `IFF` unchanged (D8). -/
def execRetn (_y : Fin 8) (s : State) : Result :=
  .next (s.popPc)

/-- R486: `RST 8·p`. -/
def execRstP (p : Fin 8) (s : State) : Result :=
  .next (s.call (BitVec.ofNat 16 (8 * p.val)))

end Sys2Proof.Machine
end

