-- ==== Sys2Proof/Machine/ExchangeBlock.lean ====
section
/-! DEFINITION. The exchange, block transfer and block search group (spec/42_exchange_block.md). -/

namespace Sys2Proof.Machine

/-- One block transfer: the byte at `HL` goes to `DE`, the pointers move, `BC` counts down (R250, R251). -/
def blockLoad (dir : Direction) (s : State) : State :=
  let t := s.readByte s.hl
  let moved := (((s.writeByte s.de t).setPair .hl (dir.move s.hl)).setPair .de (dir.move s.de)).setPair .bc (s.bc - 1)
  moved.setF (s.f.blockLoad t s.a (s.bc - 1))

/-- One block comparison of `A` with the byte at `HL` (R254, R255). -/
def blockCompare (dir : Direction) (s : State) : State :=
  let t := s.readByte s.hl
  ((s.setPair .hl (dir.move s.hl)).setPair .bc (s.bc - 1)).setF (s.f.blockCompare t s.a (s.bc - 1))

/-- `LDIR` and `LDDR` repeat while `BC ≠ 0` (R252). -/
def blockLoadRepeats (s : State) : Bool := s.bc != 0

/-- `CPIR` and `CPDR` repeat while `BC ≠ 0` and `fZ = 0` (R256). -/
def blockCompareRepeats (s : State) : Bool := s.bc != 0 && !s.f.z

/-- R241: `EX DE,HL`. -/
def execExDeHl (s : State) : Result :=
  .next ((s.setPair .de s.hl).setPair .hl s.de)

/-- R242: `EX AF,AF'`. -/
def execExAfAf (s : State) : Result :=
  .next ({ s with a := s.a', f := s.f', a' := s.a, f' := s.f })

/-- R243: `EXX`. -/
def execExx (s : State) : Result :=
  .next (s.swapBanks)

/-- R244: `EX (SP),HL`, both reads before both writes. -/
def execExAtSpHl (s : State) : Result :=
  .next ((s.writeWord s.sp s.hl).setPair .hl (s.readWord s.sp))

/-- R245: `EX (SP),IX`. -/
def execExAtSpIx (s : State) : Result :=
  .next ((s.writeWord s.sp (s.index .ix)).setIndex .ix (s.readWord s.sp))

/-- R245: `EX (SP),IY`. -/
def execExAtSpIy (s : State) : Result :=
  .next ((s.writeWord s.sp (s.index .iy)).setIndex .iy (s.readWord s.sp))

/-- R250: `LDI`. -/
def execLdi (s : State) : Result :=
  .next (blockLoad .up s)

/-- R251: `LDD`. -/
def execLdd (s : State) : Result :=
  .next (blockLoad .down s)

/-- R252: `LDIR`, one iteration a cycle (R260). -/
def execLdir (s : State) : Result :=
  .next (repeatBlock blockLoadRepeats (blockLoad .up s))

/-- R253: `LDDR`, one iteration a cycle (R260). -/
def execLddr (s : State) : Result :=
  .next (repeatBlock blockLoadRepeats (blockLoad .down s))

/-- R254: `CPI`. -/
def execCpi (s : State) : Result :=
  .next (blockCompare .up s)

/-- R255: `CPD`. -/
def execCpd (s : State) : Result :=
  .next (blockCompare .down s)

/-- R256: `CPIR`, one iteration a cycle (R260). -/
def execCpir (s : State) : Result :=
  .next (repeatBlock blockCompareRepeats (blockCompare .up s))

/-- R257: `CPDR`, one iteration a cycle (R260). -/
def execCpdr (s : State) : Result :=
  .next (repeatBlock blockCompareRepeats (blockCompare .down s))

end Sys2Proof.Machine
end

