-- ==== Sys2Proof/Machine/General.lean ====
section
/-! DEFINITION. The general-purpose arithmetic and CPU control group (spec/44_general_cpu.md). -/

namespace Sys2Proof.Machine

/-- `HALT` sets no `terminate` and there is no halted state: it re-executes for ever (`spin`) or goes on (`nop`) (R338). -/
def haltAt (mode : Config.HaltMode) (s : State) : State :=
  match mode with
  | .spin => s.setPc (s.pc - 1)
  | .nop => s

/-- R331: `DAA`. -/
def execDaa (s : State) : Result :=
  .next ({ s with a := (Flags.daa s.f s.a).1, f := (Flags.daa s.f s.a).2 })

/-- R332: `CPL`. -/
def execCpl (s : State) : Result :=
  .next ({ s with a := ~~~s.a, f := Flags.cpl s.f s.a })

/-- R333: `NEG` (`y = 0`) and its mirrors (`y` = 1..7). -/
def execNeg (_y : Fin 8) (s : State) : Result :=
  .next ({ s with a := (Flags.sub8 0 s.a false).1, f := (Flags.sub8 0 s.a false).2 })

/-- R334: `CCF`. -/
def execCcf (s : State) : Result :=
  .next ({ s with f := Flags.ccf s.f s.a })

/-- R335: `SCF`. -/
def execScf (s : State) : Result :=
  .next ({ s with f := Flags.scf s.f s.a })

/-- R336: `NOP`, nothing beyond the fetch. -/
def execNop (s : State) : Result :=
  .next s

/-- R337: `NOP*`, an unassigned `ED` opcode `op`, nothing beyond the two fetches. -/
def execNopEd (_op : Byte) (s : State) : Result :=
  .next s

/-- R338: `HALT`, the `PC` afterwards by the open parameter `HALT_MODE` (D1). -/
def execHalt (s : State) : Result :=
  .next (haltAt Config.haltMode s)

/-- R339: `DI`. -/
def execDi (s : State) : Result :=
  .next ({ s with iff := false })

/-- R340: `EI`, at once (D24). -/
def execEi (s : State) : Result :=
  .next ({ s with iff := true })

/-- R341: `IM 0` (`y` one of 0, 1, 4, 5); there is no interrupt-mode state (R46). -/
def execIm0 (_y : Fin 8) (s : State) : Result :=
  .next s

/-- R341: `IM 1` (`y` one of 2, 6); there is no interrupt-mode state (R46). -/
def execIm1 (_y : Fin 8) (s : State) : Result :=
  .next s

/-- R341: `IM 2` (`y` one of 3, 7); there is no interrupt-mode state (R46). -/
def execIm2 (_y : Fin 8) (s : State) : Result :=
  .next s

end Sys2Proof.Machine
end

