-- ==== Sys2Proof/Machine/Io.lean ====
section
/-! DEFINITION. The input and output group (spec/49_io.md). -/

namespace Sys2Proof.Machine

/-- `PortRead(port) = 0x00` for every port (R520). -/
def portRead (_port : Word) : Byte := 0

/-- `PortWrite(port, v)` = nothing (R520). -/
def portWrite (_port : Word) (_v : Byte) (s : State) : State := s

/-- One block input: the port's byte goes to `(HL)` (R531, R532); `k` takes `C` moved the way `HL` moves. -/
def blockIn (dir : Direction) (s : State) : State :=
  let t := portRead s.bc
  let b := s.b - 1
  let k := t.toNat + (match dir with
    | .up => s.c + 1
    | .down => s.c - 1).toNat
  (((s.writeByte s.hl t).setReg8 .b b).setPair .hl (dir.move s.hl)).setF (s.f.blockIo b t k)

/-- One block output: the byte at `(HL)` goes to the port (R535, R536); `k` takes the new `L`. -/
def blockOut (dir : Direction) (s : State) : State :=
  let t := s.readByte s.hl
  let b := s.b - 1
  let k := t.toNat + (loByte (dir.move s.hl)).toNat
  let counted := s.setReg8 .b b
  ((portWrite counted.bc t counted).setPair .hl (dir.move s.hl)).setF (s.f.blockIo b t k)

/-- `INIR`, `INDR`, `OTIR`, `OTDR` repeat while `B ≠ 0` (R533). -/
def blockIoRepeats (s : State) : Bool := s.b != 0

/-- R521: `IN A,(n)`, no flag (C8). -/
def execInAAtN (n : Byte) (s : State) : Result :=
  .next (s.setA (portRead (joinBytes s.a n)))

/-- R522: `IN r,(C)`. -/
def execInRAtC (r : Reg8) (s : State) : Result :=
  .next ((s.setReg8 r (portRead s.bc)).setF (Flags.input s.f (portRead s.bc)))

/-- R523: `IN (C)`, flags only. -/
def execInAtC (s : State) : Result :=
  .next (s.setF (Flags.input s.f (portRead s.bc)))

/-- R524: `OUT (n),A`. -/
def execOutAtNA (n : Byte) (s : State) : Result :=
  .next (portWrite (joinBytes s.a n) s.a s)

/-- R525: `OUT (C),r`. -/
def execOutAtCR (r : Reg8) (s : State) : Result :=
  .next (portWrite s.bc (s.reg8 r) s)

/-- R526: `OUT (C),0`. -/
def execOutAtC0 (s : State) : Result :=
  .next (portWrite s.bc 0 s)

/-- R531: `INI`. -/
def execIni (s : State) : Result :=
  .next (blockIn .up s)

/-- R532: `IND`. -/
def execInd (s : State) : Result :=
  .next (blockIn .down s)

/-- R533: `INIR`, one iteration a cycle (R260). -/
def execInir (s : State) : Result :=
  .next (repeatBlock blockIoRepeats (blockIn .up s))

/-- R534: `INDR`, one iteration a cycle (R260). -/
def execIndr (s : State) : Result :=
  .next (repeatBlock blockIoRepeats (blockIn .down s))

/-- R535: `OUTI`. -/
def execOuti (s : State) : Result :=
  .next (blockOut .up s)

/-- R536: `OUTD`. -/
def execOutd (s : State) : Result :=
  .next (blockOut .down s)

/-- R537: `OTIR`, one iteration a cycle (R260). -/
def execOtir (s : State) : Result :=
  .next (repeatBlock blockIoRepeats (blockOut .up s))

/-- R538: `OTDR`, one iteration a cycle (R260). -/
def execOtdr (s : State) : Result :=
  .next (repeatBlock blockIoRepeats (blockOut .down s))

end Sys2Proof.Machine
end

