-- ==== Sys2Proof/Machine/Load16.lean ====
section
/-! DEFINITION. The 16-bit load group, push and pop (spec/41_load16_stack.md). -/

namespace Sys2Proof.Machine

/-- R201: `LD dd,nn`. -/
def execLdDdNn (dd : Pair) (nn : Word) (s : State) : Result :=
  .next (s.setPair dd nn)

/-- R202: `LD IX,nn`. -/
def execLdIxNn (nn : Word) (s : State) : Result :=
  .next (s.setIndex .ix nn)

/-- R202: `LD IY,nn`. -/
def execLdIyNn (nn : Word) (s : State) : Result :=
  .next (s.setIndex .iy nn)

/-- R203: `LD HL,(nn)`. -/
def execLdHlAtNn (nn : Word) (s : State) : Result :=
  .next (s.setPair .hl (s.readWord nn))

/-- R204: `LD dd,(nn)`. -/
def execLdDdAtNn (dd : Pair) (nn : Word) (s : State) : Result :=
  .next (s.setPair dd (s.readWord nn))

/-- R205: `LD IX,(nn)`. -/
def execLdIxAtNn (nn : Word) (s : State) : Result :=
  .next (s.setIndex .ix (s.readWord nn))

/-- R205: `LD IY,(nn)`. -/
def execLdIyAtNn (nn : Word) (s : State) : Result :=
  .next (s.setIndex .iy (s.readWord nn))

/-- R206: `LD (nn),HL`. -/
def execLdAtNnHl (nn : Word) (s : State) : Result :=
  .next (s.writeWord nn s.hl)

/-- R207: `LD (nn),dd`. -/
def execLdAtNnDd (nn : Word) (dd : Pair) (s : State) : Result :=
  .next (s.writeWord nn (s.pair dd))

/-- R208: `LD (nn),IX`. -/
def execLdAtNnIx (nn : Word) (s : State) : Result :=
  .next (s.writeWord nn (s.index .ix))

/-- R208: `LD (nn),IY`. -/
def execLdAtNnIy (nn : Word) (s : State) : Result :=
  .next (s.writeWord nn (s.index .iy))

/-- R209: `LD SP,HL`. -/
def execLdSpHl (s : State) : Result :=
  .next (s.setSp s.hl)

/-- R210: `LD SP,IX`. -/
def execLdSpIx (s : State) : Result :=
  .next (s.setSp (s.index .ix))

/-- R210: `LD SP,IY`. -/
def execLdSpIy (s : State) : Result :=
  .next (s.setSp (s.index .iy))

/-- R211: `PUSH qq`. -/
def execPushQq (qq : StackPair) (s : State) : Result :=
  .next (s.push (s.stackPair qq))

/-- R212: `PUSH IX`. -/
def execPushIx (s : State) : Result :=
  .next (s.push (s.index .ix))

/-- R212: `PUSH IY`. -/
def execPushIy (s : State) : Result :=
  .next (s.push (s.index .iy))

/-- R213: `POP qq`. -/
def execPopQq (qq : StackPair) (s : State) : Result :=
  .next (s.popped.setStackPair qq (s.readWord s.sp))

/-- R214: `POP IX`. -/
def execPopIx (s : State) : Result :=
  .next (s.popped.setIndex .ix (s.readWord s.sp))

/-- R214: `POP IY`. -/
def execPopIy (s : State) : Result :=
  .next (s.popped.setIndex .iy (s.readWord s.sp))

end Sys2Proof.Machine
end

