-- ==== Sys2Proof/Machine/Load8.lean ====
section
/-! DEFINITION. The 8-bit load group (spec/40_load8.md). -/

namespace Sys2Proof.Machine

/-- `LD A,I` and `LD A,R` (R174, R175). -/
def loadAWithIff (v : Byte) (s : State) : State := { s with a := v, f := s.f.loadIff v s.iff }

/-- R151: `LD r,r'`: `r8[y] <- r8[z]`. -/
def execLdRR (r : Reg8) (r' : Reg8) (s : State) : Result :=
  .next (s.setReg8 r (s.reg8 r'))

/-- R152: `LD r,n`: `r8[y] <- n`. -/
def execLdRN (r : Reg8) (n : Byte) (s : State) : Result :=
  .next (s.setReg8 r n)

/-- R153: `LD r,(HL)`: `r8[y] <- Mem[HL]`. -/
def execLdRAtHl (r : Reg8) (s : State) : Result :=
  .next (s.setReg8 r (s.readByte s.hl))

/-- R154: `LD r,(IX+d)`, plain `H`, `L` for codes 4, 5 (R116). -/
def execLdRAtIx (r : Reg8) (d : Byte) (s : State) : Result :=
  .next (loadIndexed .ix r d s)

/-- R154: `LD r,(IY+d)`, plain `H`, `L` for codes 4, 5 (R116). -/
def execLdRAtIy (r : Reg8) (d : Byte) (s : State) : Result :=
  .next (loadIndexed .iy r d s)

/-- R155: `LD (HL),r`. -/
def execLdAtHlR (r : Reg8) (s : State) : Result :=
  .next (s.writeByte s.hl (s.reg8 r))

/-- R156: `LD (IX+d),r`, plain `H`, `L` for codes 4, 5 (R116). -/
def execLdAtIxR (d : Byte) (r : Reg8) (s : State) : Result :=
  .next (storeIndexed .ix d (s.reg8 r) s)

/-- R156: `LD (IY+d),r`, plain `H`, `L` for codes 4, 5 (R116). -/
def execLdAtIyR (d : Byte) (r : Reg8) (s : State) : Result :=
  .next (storeIndexed .iy d (s.reg8 r) s)

/-- R157: `LD (HL),n`. -/
def execLdAtHlN (n : Byte) (s : State) : Result :=
  .next (s.writeByte s.hl n)

/-- R158: `LD (IX+d),n`, displacement before immediate. -/
def execLdAtIxN (d : Byte) (n : Byte) (s : State) : Result :=
  .next (storeIndexed .ix d n s)

/-- R158: `LD (IY+d),n`, displacement before immediate. -/
def execLdAtIyN (d : Byte) (n : Byte) (s : State) : Result :=
  .next (storeIndexed .iy d n s)

/-- R159: `LD A,(BC)`. -/
def execLdAAtBc (s : State) : Result :=
  .next (s.setA (s.readByte s.bc))

/-- R160: `LD A,(DE)`. -/
def execLdAAtDe (s : State) : Result :=
  .next (s.setA (s.readByte s.de))

/-- R161: `LD A,(nn)`. -/
def execLdAAtNn (nn : Word) (s : State) : Result :=
  .next (s.setA (s.readByte nn))

/-- R162: `LD (BC),A`. -/
def execLdAtBcA (s : State) : Result :=
  .next (s.writeByte s.bc s.a)

/-- R163: `LD (DE),A`. -/
def execLdAtDeA (s : State) : Result :=
  .next (s.writeByte s.de s.a)

/-- R164: `LD (nn),A`. -/
def execLdAtNnA (nn : Word) (s : State) : Result :=
  .next (s.writeByte nn s.a)

/-- R165: `LD p,p'` under `DD` or `FD`: codes 4 and 5 are the halves of `IX` or `IY`. -/
def execLdPP (xy : Index) (p : IdxReg8) (p' : IdxReg8) (s : State) : Result :=
  .next (s.setIdxReg8 xy p (s.idxReg8 xy p'))

/-- R166: `LD IXH,n` and `LD IXL,n`. -/
def execLdIxhN (h : Half) (n : Byte) (s : State) : Result :=
  .next (s.setHalf .ix h n)

/-- R166: `LD IYH,n` and `LD IYL,n`. -/
def execLdIyhN (h : Half) (n : Byte) (s : State) : Result :=
  .next (s.setHalf .iy h n)

/-- R172: `LD I,A`. -/
def execLdIA (s : State) : Result :=
  .next ({ s with i := s.a })

/-- R173: `LD R,A`, all eight bits, after this instruction's own `R` increments. -/
def execLdRA (s : State) : Result :=
  .next ({ s with r := s.a })

/-- R174: `LD A,I`, `fPV <- IFF`. -/
def execLdAI (s : State) : Result :=
  .next (loadAWithIff s.i s)

/-- R175: `LD A,R`, `R` after this instruction's own increments. -/
def execLdAR (s : State) : Result :=
  .next (loadAWithIff s.r s)

end Sys2Proof.Machine
end

