-- ==== Sys2Proof/Machine/PrefixBytes.lean ====
section
/-! DEFINITION. The bytes that select where decoding goes on inside a cycle (spec/30_encoding.md R101 steps 3 to 5, R102, R104). The
fetch has moved `PC` past the byte and counted it in `R`; the next element is read in the plane set here. Log entry 6. -/

namespace Sys2Proof.Machine

/-- `pfx` and the plane of the byte that follows (R102, R104). -/
def enterPlane (p : Plane) (s : State) : State := { s with plane := p }

/-- R104: `CB`: the next byte is an opcode of the CB plane. -/
def execPrefixCb (s : State) : Result :=
  .next (enterPlane .cb s)

/-- R102: `DD`: `pfx <- IX`, the next byte is looked up in the DD plane. -/
def execPrefixDd (s : State) : Result :=
  .next (enterPlane .dd s)

/-- R104: `ED`: the next byte is an opcode of the ED plane. -/
def execPrefixEd (s : State) : Result :=
  .next (enterPlane .ed s)

/-- R102: `FD`: `pfx <- IY`, the next byte is looked up in the FD plane. -/
def execPrefixFd (s : State) : Result :=
  .next (enterPlane .fd s)

/-- R126: `CB` after `DD`: then `d`, then an opcode of the DDCB plane. -/
def execPrefixDdCb (s : State) : Result :=
  .next (enterPlane .ddcb s)

/-- R102: `DD` after `DD`: the earlier one is discarded, `pfx <- IX`. -/
def execPrefixDdAfterDd (s : State) : Result :=
  .next (enterPlane .dd s)

/-- R124: `ED` after `DD`: the earlier one has no effect. -/
def execPrefixEdAfterDd (s : State) : Result :=
  .next (enterPlane .ed s)

/-- R102: `FD` after `DD`: the earlier one is discarded, `pfx <- IY`. -/
def execPrefixFdAfterDd (s : State) : Result :=
  .next (enterPlane .fd s)

/-- R126: `CB` after `FD`: then `d`, then an opcode of the FDCB plane. -/
def execPrefixFdCb (s : State) : Result :=
  .next (enterPlane .fdcb s)

/-- R102: `DD` after `FD`: the earlier one is discarded, `pfx <- IX`. -/
def execPrefixDdAfterFd (s : State) : Result :=
  .next (enterPlane .dd s)

/-- R124: `ED` after `FD`: the earlier one has no effect. -/
def execPrefixEdAfterFd (s : State) : Result :=
  .next (enterPlane .ed s)

/-- R102: `FD` after `FD`: the earlier one is discarded, `pfx <- IY`. -/
def execPrefixFdAfterFd (s : State) : Result :=
  .next (enterPlane .fd s)

end Sys2Proof.Machine
end

