-- ==== Sys2Proof/Machine/RotateShift.lean ====
section
/-! DEFINITION. The rotate and shift group (spec/46_rotate_shift.md). -/

namespace Sys2Proof.Machine

/-- `RLCA`, `RRCA`, `RLA`, `RRA` (R391 to R394). -/
def rotateA (op : RotOp) (s : State) : State :=
  { s with a := (op.run s.a s.f.c).1, f := s.f.rotateA (op.run s.a s.f.c).1 (op.run s.a s.f.c).2 }

/-- A CB rotate or shift on a register or a cell (R400). -/
def rotate (op : RotOp) (o : Operand) (s : State) : State :=
  ((s.locate o).store o (op.run (s.load o) s.f.c).1).setF
    (s.f.rotate (op.run (s.load o) s.f.c).1 (op.run (s.load o) s.f.c).2)

/-- The copy form: the result also goes to `r8[z]` (R126, R400). -/
def rotateCopy (op : RotOp) (xy : Index) (d : Byte) (r : Reg8) (s : State) : State :=
  (rotate op (.atIndexed xy d) s).setReg8 r (op.run (s.load (.atIndexed xy d)) s.f.c).1

/-- `RLD` (R410). -/
def rotateDigitLeft (s : State) : State :=
  let t := s.readByte s.hl
  let tHigh : Byte := t >>> 4
  let a := (s.a &&& 0xF0) ||| tHigh
  { s.writeByte s.hl ((t <<< 4) ||| (s.a &&& 0x0F)) with a := a, f := s.f.input a }

/-- `RRD` (R411). -/
def rotateDigitRight (s : State) : State :=
  let t := s.readByte s.hl
  let a := (s.a &&& 0xF0) ||| (t &&& 0x0F)
  { s.writeByte s.hl ((s.a <<< 4) ||| (t >>> 4)) with a := a, f := s.f.input a }

/-- R391: `RLCA`, `fS fZ fPV` unchanged. -/
def execRlca (s : State) : Result :=
  .next (rotateA .rlc s)

/-- R392: `RRCA`, `fS fZ fPV` unchanged. -/
def execRrca (s : State) : Result :=
  .next (rotateA .rrc s)

/-- R393: `RLA`, `fS fZ fPV` unchanged. -/
def execRla (s : State) : Result :=
  .next (rotateA .rl s)

/-- R394: `RRA`, `fS fZ fPV` unchanged. -/
def execRra (s : State) : Result :=
  .next (rotateA .rr s)

/-- R401: `RLC r`. -/
def execRlcR (r : Reg8) (s : State) : Result :=
  .next (rotate .rlc (.reg r) s)

/-- R401: `RLC (HL)`. -/
def execRlcAtHl (s : State) : Result :=
  .next (rotate .rlc .atHl s)

/-- R401: `RLC (IX+d)`. -/
def execRlcAtIx (d : Byte) (s : State) : Result :=
  .next (rotate .rlc (.atIndexed .ix d) s)

/-- R401: `RLC (IX+d),r`, the result also in `r8[z]`. -/
def execRlcAtIxR (d : Byte) (r : Reg8) (s : State) : Result :=
  .next (rotateCopy .rlc .ix d r s)

/-- R401: `RLC (IY+d)`. -/
def execRlcAtIy (d : Byte) (s : State) : Result :=
  .next (rotate .rlc (.atIndexed .iy d) s)

/-- R401: `RLC (IY+d),r`, the result also in `r8[z]`. -/
def execRlcAtIyR (d : Byte) (r : Reg8) (s : State) : Result :=
  .next (rotateCopy .rlc .iy d r s)

/-- R402: `RRC r`. -/
def execRrcR (r : Reg8) (s : State) : Result :=
  .next (rotate .rrc (.reg r) s)

/-- R402: `RRC (HL)`. -/
def execRrcAtHl (s : State) : Result :=
  .next (rotate .rrc .atHl s)

/-- R402: `RRC (IX+d)`. -/
def execRrcAtIx (d : Byte) (s : State) : Result :=
  .next (rotate .rrc (.atIndexed .ix d) s)

/-- R402: `RRC (IX+d),r`, the result also in `r8[z]`. -/
def execRrcAtIxR (d : Byte) (r : Reg8) (s : State) : Result :=
  .next (rotateCopy .rrc .ix d r s)

/-- R402: `RRC (IY+d)`. -/
def execRrcAtIy (d : Byte) (s : State) : Result :=
  .next (rotate .rrc (.atIndexed .iy d) s)

/-- R402: `RRC (IY+d),r`, the result also in `r8[z]`. -/
def execRrcAtIyR (d : Byte) (r : Reg8) (s : State) : Result :=
  .next (rotateCopy .rrc .iy d r s)

/-- R403: `RL r`. -/
def execRlR (r : Reg8) (s : State) : Result :=
  .next (rotate .rl (.reg r) s)

/-- R403: `RL (HL)`. -/
def execRlAtHl (s : State) : Result :=
  .next (rotate .rl .atHl s)

/-- R403: `RL (IX+d)`. -/
def execRlAtIx (d : Byte) (s : State) : Result :=
  .next (rotate .rl (.atIndexed .ix d) s)

/-- R403: `RL (IX+d),r`, the result also in `r8[z]`. -/
def execRlAtIxR (d : Byte) (r : Reg8) (s : State) : Result :=
  .next (rotateCopy .rl .ix d r s)

/-- R403: `RL (IY+d)`. -/
def execRlAtIy (d : Byte) (s : State) : Result :=
  .next (rotate .rl (.atIndexed .iy d) s)

/-- R403: `RL (IY+d),r`, the result also in `r8[z]`. -/
def execRlAtIyR (d : Byte) (r : Reg8) (s : State) : Result :=
  .next (rotateCopy .rl .iy d r s)

/-- R404: `RR r`. -/
def execRrR (r : Reg8) (s : State) : Result :=
  .next (rotate .rr (.reg r) s)

/-- R404: `RR (HL)`. -/
def execRrAtHl (s : State) : Result :=
  .next (rotate .rr .atHl s)

/-- R404: `RR (IX+d)`. -/
def execRrAtIx (d : Byte) (s : State) : Result :=
  .next (rotate .rr (.atIndexed .ix d) s)

/-- R404: `RR (IX+d),r`, the result also in `r8[z]`. -/
def execRrAtIxR (d : Byte) (r : Reg8) (s : State) : Result :=
  .next (rotateCopy .rr .ix d r s)

/-- R404: `RR (IY+d)`. -/
def execRrAtIy (d : Byte) (s : State) : Result :=
  .next (rotate .rr (.atIndexed .iy d) s)

/-- R404: `RR (IY+d),r`, the result also in `r8[z]`. -/
def execRrAtIyR (d : Byte) (r : Reg8) (s : State) : Result :=
  .next (rotateCopy .rr .iy d r s)

/-- R405: `SLA r`. -/
def execSlaR (r : Reg8) (s : State) : Result :=
  .next (rotate .sla (.reg r) s)

/-- R405: `SLA (HL)`. -/
def execSlaAtHl (s : State) : Result :=
  .next (rotate .sla .atHl s)

/-- R405: `SLA (IX+d)`. -/
def execSlaAtIx (d : Byte) (s : State) : Result :=
  .next (rotate .sla (.atIndexed .ix d) s)

/-- R405: `SLA (IX+d),r`, the result also in `r8[z]`. -/
def execSlaAtIxR (d : Byte) (r : Reg8) (s : State) : Result :=
  .next (rotateCopy .sla .ix d r s)

/-- R405: `SLA (IY+d)`. -/
def execSlaAtIy (d : Byte) (s : State) : Result :=
  .next (rotate .sla (.atIndexed .iy d) s)

/-- R405: `SLA (IY+d),r`, the result also in `r8[z]`. -/
def execSlaAtIyR (d : Byte) (r : Reg8) (s : State) : Result :=
  .next (rotateCopy .sla .iy d r s)

/-- R406: `SRA r`. -/
def execSraR (r : Reg8) (s : State) : Result :=
  .next (rotate .sra (.reg r) s)

/-- R406: `SRA (HL)`. -/
def execSraAtHl (s : State) : Result :=
  .next (rotate .sra .atHl s)

/-- R406: `SRA (IX+d)`. -/
def execSraAtIx (d : Byte) (s : State) : Result :=
  .next (rotate .sra (.atIndexed .ix d) s)

/-- R406: `SRA (IX+d),r`, the result also in `r8[z]`. -/
def execSraAtIxR (d : Byte) (r : Reg8) (s : State) : Result :=
  .next (rotateCopy .sra .ix d r s)

/-- R406: `SRA (IY+d)`. -/
def execSraAtIy (d : Byte) (s : State) : Result :=
  .next (rotate .sra (.atIndexed .iy d) s)

/-- R406: `SRA (IY+d),r`, the result also in `r8[z]`. -/
def execSraAtIyR (d : Byte) (r : Reg8) (s : State) : Result :=
  .next (rotateCopy .sra .iy d r s)

/-- R407: `SLL r`. -/
def execSllR (r : Reg8) (s : State) : Result :=
  .next (rotate .sll (.reg r) s)

/-- R407: `SLL (HL)`. -/
def execSllAtHl (s : State) : Result :=
  .next (rotate .sll .atHl s)

/-- R407: `SLL (IX+d)`. -/
def execSllAtIx (d : Byte) (s : State) : Result :=
  .next (rotate .sll (.atIndexed .ix d) s)

/-- R407: `SLL (IX+d),r`, the result also in `r8[z]`. -/
def execSllAtIxR (d : Byte) (r : Reg8) (s : State) : Result :=
  .next (rotateCopy .sll .ix d r s)

/-- R407: `SLL (IY+d)`. -/
def execSllAtIy (d : Byte) (s : State) : Result :=
  .next (rotate .sll (.atIndexed .iy d) s)

/-- R407: `SLL (IY+d),r`, the result also in `r8[z]`. -/
def execSllAtIyR (d : Byte) (r : Reg8) (s : State) : Result :=
  .next (rotateCopy .sll .iy d r s)

/-- R408: `SRL r`. -/
def execSrlR (r : Reg8) (s : State) : Result :=
  .next (rotate .srl (.reg r) s)

/-- R408: `SRL (HL)`. -/
def execSrlAtHl (s : State) : Result :=
  .next (rotate .srl .atHl s)

/-- R408: `SRL (IX+d)`. -/
def execSrlAtIx (d : Byte) (s : State) : Result :=
  .next (rotate .srl (.atIndexed .ix d) s)

/-- R408: `SRL (IX+d),r`, the result also in `r8[z]`. -/
def execSrlAtIxR (d : Byte) (r : Reg8) (s : State) : Result :=
  .next (rotateCopy .srl .ix d r s)

/-- R408: `SRL (IY+d)`. -/
def execSrlAtIy (d : Byte) (s : State) : Result :=
  .next (rotate .srl (.atIndexed .iy d) s)

/-- R408: `SRL (IY+d),r`, the result also in `r8[z]`. -/
def execSrlAtIyR (d : Byte) (r : Reg8) (s : State) : Result :=
  .next (rotateCopy .srl .iy d r s)

/-- R410: `RLD`. -/
def execRld (s : State) : Result :=
  .next (rotateDigitLeft s)

/-- R411: `RRD`. -/
def execRrd (s : State) : Result :=
  .next (rotateDigitRight s)

end Sys2Proof.Machine
end

