-- ==== Sys2Proof/Machine/Dispatch.lean ====
section
/-! DEFINITION. One arm per instruction, each one direct call of its meaning. The fetch has already moved `PC` to `PCn` and counted
`R` when a meaning runs (R101, R150). -/

namespace Sys2Proof.Machine

def exec (i : Instr) (s : State) : Host.Outcome State Fault Refusal :=
  match i with
  | .ldRR r r' => Sys2Proof.Machine.execLdRR r r' s
  | .ldRN r n => Sys2Proof.Machine.execLdRN r n s
  | .ldRAtHl r => Sys2Proof.Machine.execLdRAtHl r s
  | .ldRAtIx r d => Sys2Proof.Machine.execLdRAtIx r d s
  | .ldRAtIy r d => Sys2Proof.Machine.execLdRAtIy r d s
  | .ldAtHlR r => Sys2Proof.Machine.execLdAtHlR r s
  | .ldAtIxR d r => Sys2Proof.Machine.execLdAtIxR d r s
  | .ldAtIyR d r => Sys2Proof.Machine.execLdAtIyR d r s
  | .ldAtHlN n => Sys2Proof.Machine.execLdAtHlN n s
  | .ldAtIxN d n => Sys2Proof.Machine.execLdAtIxN d n s
  | .ldAtIyN d n => Sys2Proof.Machine.execLdAtIyN d n s
  | .ldAAtBc => Sys2Proof.Machine.execLdAAtBc s
  | .ldAAtDe => Sys2Proof.Machine.execLdAAtDe s
  | .ldAAtNn nn => Sys2Proof.Machine.execLdAAtNn nn s
  | .ldAtBcA => Sys2Proof.Machine.execLdAtBcA s
  | .ldAtDeA => Sys2Proof.Machine.execLdAtDeA s
  | .ldAtNnA nn => Sys2Proof.Machine.execLdAtNnA nn s
  | .ldPP xy p p' => Sys2Proof.Machine.execLdPP xy p p' s
  | .ldIxhN h n => Sys2Proof.Machine.execLdIxhN h n s
  | .ldIyhN h n => Sys2Proof.Machine.execLdIyhN h n s
  | .ldIA => Sys2Proof.Machine.execLdIA s
  | .ldRA => Sys2Proof.Machine.execLdRA s
  | .ldAI => Sys2Proof.Machine.execLdAI s
  | .ldAR => Sys2Proof.Machine.execLdAR s
  | .ldDdNn dd nn => Sys2Proof.Machine.execLdDdNn dd nn s
  | .ldIxNn nn => Sys2Proof.Machine.execLdIxNn nn s
  | .ldIyNn nn => Sys2Proof.Machine.execLdIyNn nn s
  | .ldHlAtNn nn => Sys2Proof.Machine.execLdHlAtNn nn s
  | .ldDdAtNn dd nn => Sys2Proof.Machine.execLdDdAtNn dd nn s
  | .ldIxAtNn nn => Sys2Proof.Machine.execLdIxAtNn nn s
  | .ldIyAtNn nn => Sys2Proof.Machine.execLdIyAtNn nn s
  | .ldAtNnHl nn => Sys2Proof.Machine.execLdAtNnHl nn s
  | .ldAtNnDd nn dd => Sys2Proof.Machine.execLdAtNnDd nn dd s
  | .ldAtNnIx nn => Sys2Proof.Machine.execLdAtNnIx nn s
  | .ldAtNnIy nn => Sys2Proof.Machine.execLdAtNnIy nn s
  | .ldSpHl => Sys2Proof.Machine.execLdSpHl s
  | .ldSpIx => Sys2Proof.Machine.execLdSpIx s
  | .ldSpIy => Sys2Proof.Machine.execLdSpIy s
  | .pushQq qq => Sys2Proof.Machine.execPushQq qq s
  | .pushIx => Sys2Proof.Machine.execPushIx s
  | .pushIy => Sys2Proof.Machine.execPushIy s
  | .popQq qq => Sys2Proof.Machine.execPopQq qq s
  | .popIx => Sys2Proof.Machine.execPopIx s
  | .popIy => Sys2Proof.Machine.execPopIy s
  | .exDeHl => Sys2Proof.Machine.execExDeHl s
  | .exAfAf => Sys2Proof.Machine.execExAfAf s
  | .exx => Sys2Proof.Machine.execExx s
  | .exAtSpHl => Sys2Proof.Machine.execExAtSpHl s
  | .exAtSpIx => Sys2Proof.Machine.execExAtSpIx s
  | .exAtSpIy => Sys2Proof.Machine.execExAtSpIy s
  | .ldi => Sys2Proof.Machine.execLdi s
  | .ldd => Sys2Proof.Machine.execLdd s
  | .ldir => Sys2Proof.Machine.execLdir s
  | .lddr => Sys2Proof.Machine.execLddr s
  | .cpi => Sys2Proof.Machine.execCpi s
  | .cpd => Sys2Proof.Machine.execCpd s
  | .cpir => Sys2Proof.Machine.execCpir s
  | .cpdr => Sys2Proof.Machine.execCpdr s
  | .addAR r => Sys2Proof.Machine.execAddAR r s
  | .addAAtHl => Sys2Proof.Machine.execAddAAtHl s
  | .addAN n => Sys2Proof.Machine.execAddAN n s
  | .addAIxh h => Sys2Proof.Machine.execAddAIxh h s
  | .addAAtIx d => Sys2Proof.Machine.execAddAAtIx d s
  | .addAIyh h => Sys2Proof.Machine.execAddAIyh h s
  | .addAAtIy d => Sys2Proof.Machine.execAddAAtIy d s
  | .adcAR r => Sys2Proof.Machine.execAdcAR r s
  | .adcAAtHl => Sys2Proof.Machine.execAdcAAtHl s
  | .adcAN n => Sys2Proof.Machine.execAdcAN n s
  | .adcAIxh h => Sys2Proof.Machine.execAdcAIxh h s
  | .adcAAtIx d => Sys2Proof.Machine.execAdcAAtIx d s
  | .adcAIyh h => Sys2Proof.Machine.execAdcAIyh h s
  | .adcAAtIy d => Sys2Proof.Machine.execAdcAAtIy d s
  | .subR r => Sys2Proof.Machine.execSubR r s
  | .subAtHl => Sys2Proof.Machine.execSubAtHl s
  | .subN n => Sys2Proof.Machine.execSubN n s
  | .subIxh h => Sys2Proof.Machine.execSubIxh h s
  | .subAtIx d => Sys2Proof.Machine.execSubAtIx d s
  | .subIyh h => Sys2Proof.Machine.execSubIyh h s
  | .subAtIy d => Sys2Proof.Machine.execSubAtIy d s
  | .sbcAR r => Sys2Proof.Machine.execSbcAR r s
  | .sbcAAtHl => Sys2Proof.Machine.execSbcAAtHl s
  | .sbcAN n => Sys2Proof.Machine.execSbcAN n s
  | .sbcAIxh h => Sys2Proof.Machine.execSbcAIxh h s
  | .sbcAAtIx d => Sys2Proof.Machine.execSbcAAtIx d s
  | .sbcAIyh h => Sys2Proof.Machine.execSbcAIyh h s
  | .sbcAAtIy d => Sys2Proof.Machine.execSbcAAtIy d s
  | .andR r => Sys2Proof.Machine.execAndR r s
  | .andAtHl => Sys2Proof.Machine.execAndAtHl s
  | .andN n => Sys2Proof.Machine.execAndN n s
  | .andIxh h => Sys2Proof.Machine.execAndIxh h s
  | .andAtIx d => Sys2Proof.Machine.execAndAtIx d s
  | .andIyh h => Sys2Proof.Machine.execAndIyh h s
  | .andAtIy d => Sys2Proof.Machine.execAndAtIy d s
  | .xorR r => Sys2Proof.Machine.execXorR r s
  | .xorAtHl => Sys2Proof.Machine.execXorAtHl s
  | .xorN n => Sys2Proof.Machine.execXorN n s
  | .xorIxh h => Sys2Proof.Machine.execXorIxh h s
  | .xorAtIx d => Sys2Proof.Machine.execXorAtIx d s
  | .xorIyh h => Sys2Proof.Machine.execXorIyh h s
  | .xorAtIy d => Sys2Proof.Machine.execXorAtIy d s
  | .orR r => Sys2Proof.Machine.execOrR r s
  | .orAtHl => Sys2Proof.Machine.execOrAtHl s
  | .orN n => Sys2Proof.Machine.execOrN n s
  | .orIxh h => Sys2Proof.Machine.execOrIxh h s
  | .orAtIx d => Sys2Proof.Machine.execOrAtIx d s
  | .orIyh h => Sys2Proof.Machine.execOrIyh h s
  | .orAtIy d => Sys2Proof.Machine.execOrAtIy d s
  | .cpR r => Sys2Proof.Machine.execCpR r s
  | .cpAtHl => Sys2Proof.Machine.execCpAtHl s
  | .cpN n => Sys2Proof.Machine.execCpN n s
  | .cpIxh h => Sys2Proof.Machine.execCpIxh h s
  | .cpAtIx d => Sys2Proof.Machine.execCpAtIx d s
  | .cpIyh h => Sys2Proof.Machine.execCpIyh h s
  | .cpAtIy d => Sys2Proof.Machine.execCpAtIy d s
  | .incR r => Sys2Proof.Machine.execIncR r s
  | .incAtHl => Sys2Proof.Machine.execIncAtHl s
  | .incIxh h => Sys2Proof.Machine.execIncIxh h s
  | .incAtIx d => Sys2Proof.Machine.execIncAtIx d s
  | .incIyh h => Sys2Proof.Machine.execIncIyh h s
  | .incAtIy d => Sys2Proof.Machine.execIncAtIy d s
  | .decR r => Sys2Proof.Machine.execDecR r s
  | .decAtHl => Sys2Proof.Machine.execDecAtHl s
  | .decIxh h => Sys2Proof.Machine.execDecIxh h s
  | .decAtIx d => Sys2Proof.Machine.execDecAtIx d s
  | .decIyh h => Sys2Proof.Machine.execDecIyh h s
  | .decAtIy d => Sys2Proof.Machine.execDecAtIy d s
  | .daa => Sys2Proof.Machine.execDaa s
  | .cpl => Sys2Proof.Machine.execCpl s
  | .neg y => Sys2Proof.Machine.execNeg y s
  | .ccf => Sys2Proof.Machine.execCcf s
  | .scf => Sys2Proof.Machine.execScf s
  | .nop => Sys2Proof.Machine.execNop s
  | .nopEd op => Sys2Proof.Machine.execNopEd op s
  | .halt => Sys2Proof.Machine.execHalt s
  | .di => Sys2Proof.Machine.execDi s
  | .ei => Sys2Proof.Machine.execEi s
  | .im0 y => Sys2Proof.Machine.execIm0 y s
  | .im1 y => Sys2Proof.Machine.execIm1 y s
  | .im2 y => Sys2Proof.Machine.execIm2 y s
  | .addHlSs ss => Sys2Proof.Machine.execAddHlSs ss s
  | .addIxPp pp => Sys2Proof.Machine.execAddIxPp pp s
  | .addIyPp pp => Sys2Proof.Machine.execAddIyPp pp s
  | .adcHlSs ss => Sys2Proof.Machine.execAdcHlSs ss s
  | .sbcHlSs ss => Sys2Proof.Machine.execSbcHlSs ss s
  | .incSs ss => Sys2Proof.Machine.execIncSs ss s
  | .incIx => Sys2Proof.Machine.execIncIx s
  | .incIy => Sys2Proof.Machine.execIncIy s
  | .decSs ss => Sys2Proof.Machine.execDecSs ss s
  | .decIx => Sys2Proof.Machine.execDecIx s
  | .decIy => Sys2Proof.Machine.execDecIy s
  | .rlca => Sys2Proof.Machine.execRlca s
  | .rrca => Sys2Proof.Machine.execRrca s
  | .rla => Sys2Proof.Machine.execRla s
  | .rra => Sys2Proof.Machine.execRra s
  | .rlcR r => Sys2Proof.Machine.execRlcR r s
  | .rlcAtHl => Sys2Proof.Machine.execRlcAtHl s
  | .rlcAtIx d => Sys2Proof.Machine.execRlcAtIx d s
  | .rlcAtIxR d r => Sys2Proof.Machine.execRlcAtIxR d r s
  | .rlcAtIy d => Sys2Proof.Machine.execRlcAtIy d s
  | .rlcAtIyR d r => Sys2Proof.Machine.execRlcAtIyR d r s
  | .rrcR r => Sys2Proof.Machine.execRrcR r s
  | .rrcAtHl => Sys2Proof.Machine.execRrcAtHl s
  | .rrcAtIx d => Sys2Proof.Machine.execRrcAtIx d s
  | .rrcAtIxR d r => Sys2Proof.Machine.execRrcAtIxR d r s
  | .rrcAtIy d => Sys2Proof.Machine.execRrcAtIy d s
  | .rrcAtIyR d r => Sys2Proof.Machine.execRrcAtIyR d r s
  | .rlR r => Sys2Proof.Machine.execRlR r s
  | .rlAtHl => Sys2Proof.Machine.execRlAtHl s
  | .rlAtIx d => Sys2Proof.Machine.execRlAtIx d s
  | .rlAtIxR d r => Sys2Proof.Machine.execRlAtIxR d r s
  | .rlAtIy d => Sys2Proof.Machine.execRlAtIy d s
  | .rlAtIyR d r => Sys2Proof.Machine.execRlAtIyR d r s
  | .rrR r => Sys2Proof.Machine.execRrR r s
  | .rrAtHl => Sys2Proof.Machine.execRrAtHl s
  | .rrAtIx d => Sys2Proof.Machine.execRrAtIx d s
  | .rrAtIxR d r => Sys2Proof.Machine.execRrAtIxR d r s
  | .rrAtIy d => Sys2Proof.Machine.execRrAtIy d s
  | .rrAtIyR d r => Sys2Proof.Machine.execRrAtIyR d r s
  | .slaR r => Sys2Proof.Machine.execSlaR r s
  | .slaAtHl => Sys2Proof.Machine.execSlaAtHl s
  | .slaAtIx d => Sys2Proof.Machine.execSlaAtIx d s
  | .slaAtIxR d r => Sys2Proof.Machine.execSlaAtIxR d r s
  | .slaAtIy d => Sys2Proof.Machine.execSlaAtIy d s
  | .slaAtIyR d r => Sys2Proof.Machine.execSlaAtIyR d r s
  | .sraR r => Sys2Proof.Machine.execSraR r s
  | .sraAtHl => Sys2Proof.Machine.execSraAtHl s
  | .sraAtIx d => Sys2Proof.Machine.execSraAtIx d s
  | .sraAtIxR d r => Sys2Proof.Machine.execSraAtIxR d r s
  | .sraAtIy d => Sys2Proof.Machine.execSraAtIy d s
  | .sraAtIyR d r => Sys2Proof.Machine.execSraAtIyR d r s
  | .sllR r => Sys2Proof.Machine.execSllR r s
  | .sllAtHl => Sys2Proof.Machine.execSllAtHl s
  | .sllAtIx d => Sys2Proof.Machine.execSllAtIx d s
  | .sllAtIxR d r => Sys2Proof.Machine.execSllAtIxR d r s
  | .sllAtIy d => Sys2Proof.Machine.execSllAtIy d s
  | .sllAtIyR d r => Sys2Proof.Machine.execSllAtIyR d r s
  | .srlR r => Sys2Proof.Machine.execSrlR r s
  | .srlAtHl => Sys2Proof.Machine.execSrlAtHl s
  | .srlAtIx d => Sys2Proof.Machine.execSrlAtIx d s
  | .srlAtIxR d r => Sys2Proof.Machine.execSrlAtIxR d r s
  | .srlAtIy d => Sys2Proof.Machine.execSrlAtIy d s
  | .srlAtIyR d r => Sys2Proof.Machine.execSrlAtIyR d r s
  | .rld => Sys2Proof.Machine.execRld s
  | .rrd => Sys2Proof.Machine.execRrd s
  | .bitBR b r => Sys2Proof.Machine.execBitBR b r s
  | .bitBAtHl b => Sys2Proof.Machine.execBitBAtHl b s
  | .bitBAtIx b d z => Sys2Proof.Machine.execBitBAtIx b d z s
  | .bitBAtIy b d z => Sys2Proof.Machine.execBitBAtIy b d z s
  | .setBR b r => Sys2Proof.Machine.execSetBR b r s
  | .setBAtHl b => Sys2Proof.Machine.execSetBAtHl b s
  | .setBAtIx b d => Sys2Proof.Machine.execSetBAtIx b d s
  | .setBAtIxR b d r => Sys2Proof.Machine.execSetBAtIxR b d r s
  | .setBAtIy b d => Sys2Proof.Machine.execSetBAtIy b d s
  | .setBAtIyR b d r => Sys2Proof.Machine.execSetBAtIyR b d r s
  | .resBR b r => Sys2Proof.Machine.execResBR b r s
  | .resBAtHl b => Sys2Proof.Machine.execResBAtHl b s
  | .resBAtIx b d => Sys2Proof.Machine.execResBAtIx b d s
  | .resBAtIxR b d r => Sys2Proof.Machine.execResBAtIxR b d r s
  | .resBAtIy b d => Sys2Proof.Machine.execResBAtIy b d s
  | .resBAtIyR b d r => Sys2Proof.Machine.execResBAtIyR b d r s
  | .jpNn nn => Sys2Proof.Machine.execJpNn nn s
  | .jpCcNn cc nn => Sys2Proof.Machine.execJpCcNn cc nn s
  | .jrE e => Sys2Proof.Machine.execJrE e s
  | .jrCcE cc e => Sys2Proof.Machine.execJrCcE cc e s
  | .jpAtHl => Sys2Proof.Machine.execJpAtHl s
  | .jpAtIx => Sys2Proof.Machine.execJpAtIx s
  | .jpAtIy => Sys2Proof.Machine.execJpAtIy s
  | .djnzE e => Sys2Proof.Machine.execDjnzE e s
  | .callNn nn => Sys2Proof.Machine.execCallNn nn s
  | .callCcNn cc nn => Sys2Proof.Machine.execCallCcNn cc nn s
  | .ret => Sys2Proof.Machine.execRet s
  | .retCc cc => Sys2Proof.Machine.execRetCc cc s
  | .reti => Sys2Proof.Machine.execReti s
  | .retn y => Sys2Proof.Machine.execRetn y s
  | .rstP p => Sys2Proof.Machine.execRstP p s
  | .inAAtN n => Sys2Proof.Machine.execInAAtN n s
  | .inRAtC r => Sys2Proof.Machine.execInRAtC r s
  | .inAtC => Sys2Proof.Machine.execInAtC s
  | .outAtNA n => Sys2Proof.Machine.execOutAtNA n s
  | .outAtCR r => Sys2Proof.Machine.execOutAtCR r s
  | .outAtC0 => Sys2Proof.Machine.execOutAtC0 s
  | .ini => Sys2Proof.Machine.execIni s
  | .ind => Sys2Proof.Machine.execInd s
  | .inir => Sys2Proof.Machine.execInir s
  | .indr => Sys2Proof.Machine.execIndr s
  | .outi => Sys2Proof.Machine.execOuti s
  | .outd => Sys2Proof.Machine.execOutd s
  | .otir => Sys2Proof.Machine.execOtir s
  | .otdr => Sys2Proof.Machine.execOtdr s
  | .prefixCb => Sys2Proof.Machine.execPrefixCb s
  | .prefixDd => Sys2Proof.Machine.execPrefixDd s
  | .prefixEd => Sys2Proof.Machine.execPrefixEd s
  | .prefixFd => Sys2Proof.Machine.execPrefixFd s
  | .prefixDdCb => Sys2Proof.Machine.execPrefixDdCb s
  | .prefixDdAfterDd => Sys2Proof.Machine.execPrefixDdAfterDd s
  | .prefixEdAfterDd => Sys2Proof.Machine.execPrefixEdAfterDd s
  | .prefixFdAfterDd => Sys2Proof.Machine.execPrefixFdAfterDd s
  | .prefixFdCb => Sys2Proof.Machine.execPrefixFdCb s
  | .prefixDdAfterFd => Sys2Proof.Machine.execPrefixDdAfterFd s
  | .prefixEdAfterFd => Sys2Proof.Machine.execPrefixEdAfterFd s
  | .prefixFdAfterFd => Sys2Proof.Machine.execPrefixFdAfterFd s

end Sys2Proof.Machine
end

