-- ==== Sys2Proof/Machine/Environment.lean ====
section
/-! DEFINITION. The environment behind the magic-page trap (spec/60_exceptions.md R570 to R576): what each of the 19 handlers does to
the block's state, as far as the spec states it. Everything else a handler delivers is drawn from `Config.environment`, which has no
body (D17, log entries 8 and 9). -/

namespace Sys2Proof.Machine

/-- The 8-bit result codes of the file functions (R573). -/
inductive FileCode
  | code00 | code01 | code02 | code05 | code06 | codeFF
  deriving DecidableEq, Repr, Inhabited

def FileCode.toByte : FileCode → Byte
  | .code00 => 0x00
  | .code01 => 0x01
  | .code02 => 0x02
  | .code05 => 0x05
  | .code06 => 0x06
  | .codeFF => 0xFF

/-- The reasons a file function may end the run with (R573). -/
inductive FileStop
  | roDisk | roFile | host | logic | select
  deriving DecidableEq, Repr, Inhabited

def FileStop.toStopReason : FileStop → StopReason
  | .roDisk => .errRoDisk
  | .roFile => .errRoFile
  | .host => .errHost
  | .logic => .errLogic
  | .select => .errSelect

/-- What the environment draws for one handler call; a handler uses the parts its row of R573 leaves to the environment. -/
structure EnvResponse where
  /-- A console read does not return (R651, U14). -/
  blocks : Bool
  /-- `A B H L` where no result is stated (R572: unspecified). -/
  a : Byte
  b : Byte
  h : Byte
  l : Byte
  /-- An 8-bit result: a character, a drive or user number. -/
  value : Byte
  /-- A 16-bit result. -/
  word : Word
  /-- A yes/no answer: a character is ready, the drive is not configured, the address is out of range, `^C` on an empty line. -/
  flag : Bool
  /-- Stores the spec leaves to the environment (R571), some of them confined to a region (R573). -/
  writes : List (Word × Byte)
  /-- The end of the run by such a handler (R576). -/
  stop : Option StopReason
  /-- A file function's result code, or its reason to end the run. -/
  fileCode : FileCode
  fileStop : Option FileStop
  /-- A console line. -/
  line : List Byte
  /-- Date and time. -/
  day : Word
  hour : Nat
  minute : Nat
  second : Nat
  /-- Whether a signal that arrives in the trap cycle writes `term_reason` in place of the handler (R590, U8). -/
  signalWins : Bool
  /-- The environment's own state afterwards. -/
  env : Nat
  deriving DecidableEq, Repr, Inhabited

end Sys2Proof.Machine

namespace Sys2Proof.Config

/-- `TrapHandler`'s draws, OPEN (D17): a function of the magic offset and the whole state, the environment's own state `env` among
it, WITHOUT A BODY, so that no claim can depend on what the environment answers (R571). -/
opaque environment (offset : Nat) (s : Machine.State) : Machine.EnvResponse

end Sys2Proof.Config

namespace Sys2Proof.Machine

/-- How a handler call ends: with an effect, or not at all. -/
inductive Handled
  | done (e : TrapEffect)
  | blocked
  deriving DecidableEq, Repr

/-! ### The shapes of an effect (R572) -/

/-- No result stated: `A B H L` unspecified (R572). -/
def EnvResponse.unstated (r : EnvResponse) : TrapEffect :=
  { writes := [], a := r.a, b := r.b, h := r.h, l := r.l, stop := none, env := r.env, dma := none }

/-- An 8-bit result: `A = L = v`, `B = H = 0` (R572). -/
def EnvResponse.byteResult (r : EnvResponse) (v : Byte) : TrapEffect :=
  { r.unstated with a := v, l := v, b := 0, h := 0 }

/-- A 16-bit result: `HL = w`. `A` and `B` are a parameter (R572), any value (U7): drawn. Log entry 10. -/
def EnvResponse.wordResult (r : EnvResponse) (w : Word) : TrapEffect := { r.unstated with h := hiByte w, l := loByte w }

/-- The end of the run, no result stated (R576). -/
def EnvResponse.stopped (r : EnvResponse) (reason : StopReason) : TrapEffect := { r.unstated with stop := some reason }

/-- A handler that waits for console input: the one kind that may not return (R651, U14). Log entry 28. -/
def EnvResponse.waiting (r : EnvResponse) (e : TrapEffect) : Handled := if r.blocks then .blocked else .done e

/-- An entry the spec leaves to the environment: all that the contract of R571 allows. -/
def EnvResponse.contract (r : EnvResponse) : TrapEffect := { r.unstated with writes := r.writes, stop := r.stop }

/-- The stores of a list whose addresses lie in a region. -/
def confine (inside : Word → Bool) (ws : List (Word × Byte)) : List (Word × Byte) := ws.filter fun w => inside w.1

/-- The File Control Block at `DE` and the DMA buffer: all that a file function stores to (R573). Log entry 32. -/
def State.fileRegion (s : State) (x : Word) : Bool :=
  decide (x - s.de < Config.fcbLength) || decide (x - s.dma < Config.dmaLength)

/-- The count and the line of a console buffer at `DE`: all that BDOS 10 stores to (R573). -/
def State.lineRegion (s : State) (x : Word) : Bool := decide ((x - (s.de + 1)).toNat ≤ (s.readByte s.de).toNat)

/-! ### The BDOS functions (R573) -/

/-- Whether a `$` (`0x24`) stands in memory from address `a` on, within `fuel` bytes (BDOS 9). -/
def dollarWithin (s : State) : Nat → Nat → Bool
  | 0, _ => false
  | fuel + 1, a => s.mem.get a == 0x24 || dollarWithin s fuel (a + 1)

/-- BDOS 9, Print String: the run ends with `ERR_BDOSARG` when no `$` stands between `DE` and the end of memory. -/
def printString (s : State) (r : EnvResponse) : TrapEffect :=
  if dollarWithin s (65536 - s.de.toNat) s.de.toNat then r.unstated else r.stopped .errBdosArg

/-- The cells of a console line from `a` on. -/
def lineWrites (a : Word) : List Byte → List (Word × Byte)
  | [] => []
  | v :: vs => (a, v) :: lineWrites (a + 1) vs

/-- BDOS 10, Read Console Buffer: at most `Mem[DE]` bytes, their count at `DE+1`, the bytes from `DE+2`; `^C` on an empty line ends
the run with `OK_CTRLC`. Whether the buffer is stored to in that case the row does not say: drawn, inside the buffer (DESIGN CHOICE, log
entry 27). -/
def readLine (s : State) (r : EnvResponse) : TrapEffect :=
  let line := r.line.take (s.readByte s.de).toNat
  if r.flag then { r.stopped .okCtrlC with writes := confine s.lineRegion r.writes }
  else { r.unstated with writes := (s.de + 1, BitVec.ofNat 8 line.length) :: lineWrites (s.de + 2) line }

/-- The file functions: stores of the environment's to the FCB at `DE` and to the DMA buffer, and nowhere else; a result code, or the
end of the run. -/
def fileFunction (s : State) (r : EnvResponse) : TrapEffect :=
  { (match r.fileStop with
    | none => r.byteResult r.fileCode.toByte
    | some reason => r.stopped reason.toStopReason) with
    writes := confine s.fileRegion r.writes }

/-- BDOS 32, set: the user number goes to the high nibble of `0004`, the low nibble is the current drive (R79); for `E` above 15
the byte is the environment's. -/
def setUser (s : State) (r : EnvResponse) : TrapEffect :=
  { r.unstated with
    writes := [(0x0004, if s.e.toNat < 16 then (s.e <<< 4) ||| (r.value &&& 0x0F) else r.value)] }

/-- The BCD byte of a two-digit number. -/
def bcd (n : Nat) : Byte := BitVec.ofNat 8 (n / 10 % 10 * 16 + n % 10)

/-- BDOS 105, Get Date and Time: day, hour and minute at `DE`, seconds in `A`. -/
def dateTime (s : State) (r : EnvResponse) : TrapEffect :=
  { r.unstated with
    a := bcd r.second,
    writes := [(s.de, loByte r.day), (s.de + 1, hiByte r.day), (s.de + 2, bcd r.hour), (s.de + 3, bcd r.minute)] }

/-- The BDOS, by the function number in `C` (R573). Every number the table does not name returns 0. -/
def bdos (s : State) (r : EnvResponse) : Handled :=
  match s.c.toNat with
  | 0 => .done (r.stopped .okTerm)
  | 1 => r.waiting (r.byteResult r.value)
  | 2 => .done r.unstated
  | 3 => .done r.contract
  | 4 => .done r.contract
  | 5 => .done r.contract
  | 6 => if s.e = 0xFF then .done (r.byteResult r.value) else .done r.unstated
  | 7 => .done (r.byteResult (s.readByte 0x0003))
  | 8 => .done { r.unstated with writes := [(0x0003, s.e)] }
  | 9 => .done (printString s r)
  | 10 => r.waiting (readLine s r)
  | 11 => .done (r.byteResult (if r.flag then 0xFF else 0x00))
  | 12 => .done (r.byteResult 0x22)
  | 13 => .done { r.contract with dma := some Config.defaultDma }
  | 14 => .done (if r.flag then { r.stopped .errSelect with writes := r.writes } else { r.unstated with writes := r.writes })
  | 15 => .done (fileFunction s r)
  | 16 => .done (fileFunction s r)
  | 17 => .done (fileFunction s r)
  | 18 => .done (fileFunction s r)
  | 19 => .done (fileFunction s r)
  | 20 => .done (fileFunction s r)
  | 21 => .done (fileFunction s r)
  | 22 => .done (fileFunction s r)
  | 23 => .done (fileFunction s r)
  | 24 => .done (r.wordResult r.word)
  | 25 => .done (r.byteResult r.value)
  | 26 => .done (if r.flag then r.stopped .errBdosArg else { r.unstated with dma := some s.de })
  | 27 => .done (r.wordResult s.alvAddr)
  | 28 => .done r.contract
  | 29 => .done (r.wordResult r.word)
  | 30 => .done (fileFunction s r)
  | 31 => .done (r.wordResult s.dpbAddr)
  | 32 => if s.e = 0xFF then .done (r.byteResult r.value) else .done (setUser s r)
  | 33 => .done (fileFunction s r)
  | 34 => .done (fileFunction s r)
  | 35 => .done (fileFunction s r)
  | 36 => .done (fileFunction s r)
  | 37 => .done r.contract
  | 40 => .done (fileFunction s r)
  | 49 => .done r.unstated
  | 101 => .done (r.byteResult 0x61)
  | 102 => .done (fileFunction s r)
  | 105 => .done (dateTime s r)
  | 108 => if s.de = 0xFFFF then .done (r.wordResult r.word) else .done r.unstated
  | 141 => .done r.unstated
  | _ => .done (r.byteResult 0)

/-! ### The nineteen entries (R570, R574) -/

/-- The handler a magic offset selects (R570). -/
def handler (offset : Nat) (s : State) (r : EnvResponse) : Handled :=
  match offset with
  | 0 => bdos s r
  | 1 => .done (r.stopped .errBoot)
  | 2 => .done (r.stopped .okTerm)
  | 3 => .done r.contract
  | 4 => r.waiting r.contract
  | 5 => .done r.contract
  | 6 => .done r.contract
  | 7 => .done r.contract
  | 8 => .done r.contract
  | 9 => .done r.unstated
  | 10 => .done (r.wordResult 0)
  | 11 => .done r.unstated
  | 12 => .done r.unstated
  | 13 => .done r.unstated
  | 14 => .done r.unstated
  | 15 => .done r.unstated
  | 16 => .done r.contract
  | 17 => .done (r.wordResult s.bc)
  | _ => .done r.unstated

/-- A handler that ends the run in the cycle in which a signal arrives: the reason is either one's (R590, U8). -/
def EnvResponse.race (r : EnvResponse) (t : State) : State :=
  if t.terminate && t.signal == some 0 && r.signalWins then t.stopWith .errSignal else t

/-- `TrapCycle(offset)` (R562). -/
def trapCycle (s : State) : Result :=
  let offset := (s.pc - Config.magicAddress).toNat
  let r := Config.environment offset s
  match handler offset s r with
  | .done e => .next (r.race (takeTrap e s))
  | .blocked => .fault .handlerBlocked

end Sys2Proof.Machine
end

