-- ==== Sys2Proof/WellFormed.lean ====
section
/-! DEFINITION. Which terms of Instr stand for an encoding: the operand values a row of spec/opcode_table.json excludes are refused
here (every other operand is admitted by its type). -/

namespace Sys2Proof

/-- The `ED` opcodes R124 assigns no instruction to: `00`..`3F`, `77`, `7F`, `80`..`9F`, `A4`..`A7`, `AC`..`AF`, `B4`..`B7`,
`BC`..`BF`, `C0`..`FF` (R337). -/
def edUnassigned (op : Byte) : Bool :=
  let n := op.toNat
  n < 0x40 || n == 0x77 || n == 0x7F || (0x80 ≤ n && n < 0xA0) || (0xA0 ≤ n && n < 0xC0 && 4 ≤ n % 8) || 0xC0 ≤ n

/-- The mode `IM` carries in `y`: `0,0,1,2,0,0,1,2` (R124, R341). -/
def imMode (y : Fin 8) : Nat :=
  match y.val % 4 with
  | 2 => 1
  | 3 => 2
  | _ => 0

/-- The well-formed instructions. -/
def Instr.wellFormed : Instr → Bool
  | .nopEd op => edUnassigned op
  | .im0 y => imMode y == 0
  | .im1 y => imMode y == 1
  | .im2 y => imMode y == 2
  | .retn y => y != 1
  | _ => true

end Sys2Proof
end

