-- ==== Sys2Proof/Decode.lean ====
section
/-! DEFINITION. The decoder (spec/30_encoding.md R101 to R127), total on any bytes, and after it the encoder. One reading step
(`readElem`) takes ONE element of a cycle: a byte that only selects a plane (R102, R104), or an instruction with its operand bytes.
No three bytes are illegal in any plane (R120), so the one way a byte string is rejected is that it ends too soon. -/

namespace Sys2Proof

/-- One element of a cycle and its length in bytes. -/
structure Elem where
  instr : Instr
  len : Nat
  deriving DecidableEq, Repr

/-! ### Operand codes (R110 to R113) -/

/-- `r8[k]`, `none` for 6, the memory cell (R110). -/
def Reg8.ofCode : Nat → Option Reg8
  | 0 => some .b
  | 1 => some .c
  | 2 => some .d
  | 3 => some .e
  | 4 => some .h
  | 5 => some .l
  | 7 => some .a
  | _ => none

def Reg8.code : Reg8 → Nat
  | .b => 0
  | .c => 1
  | .d => 2
  | .e => 3
  | .h => 4
  | .l => 5
  | .a => 7

/-- `r8[k]` with codes 4 and 5 read as the halves of the index register (R116, R165). -/
def IdxReg8.ofCode : Nat → Option IdxReg8
  | 0 => some .b
  | 1 => some .c
  | 2 => some .d
  | 3 => some .e
  | 4 => some .hi
  | 5 => some .lo
  | 7 => some .a
  | _ => none

def IdxReg8.code : IdxReg8 → Nat
  | .b => 0
  | .c => 1
  | .d => 2
  | .e => 3
  | .hi => 4
  | .lo => 5
  | .a => 7

/-- The half that code 4 or 5 names. -/
def Half.ofCode : Nat → Option Half
  | 4 => some .hi
  | 5 => some .lo
  | _ => none

def Half.code : Half → Nat
  | .hi => 4
  | .lo => 5

/-- `rp[k]` (R111). -/
def Pair.ofCode : Nat → Pair
  | 0 => .bc
  | 1 => .de
  | 2 => .hl
  | _ => .sp

def Pair.code : Pair → Nat
  | .bc => 0
  | .de => 1
  | .hl => 2
  | .sp => 3

/-- `rp2[k]` (R112). -/
def StackPair.ofCode : Nat → StackPair
  | 0 => .bc
  | 1 => .de
  | 2 => .hl
  | _ => .af

def StackPair.code : StackPair → Nat
  | .bc => 0
  | .de => 1
  | .hl => 2
  | .af => 3

/-- `rp[k]` of `ADD IX,pp`: code 2 names the index register (R362). -/
def IdxPair.ofCode : Nat → IdxPair
  | 0 => .bc
  | 1 => .de
  | 2 => .xy
  | _ => .sp

def IdxPair.code : IdxPair → Nat
  | .bc => 0
  | .de => 1
  | .xy => 2
  | .sp => 3

/-- `cc[k]` (R113). -/
def Cond.ofCode : Nat → Cond
  | 0 => .nz
  | 1 => .z
  | 2 => .nc
  | 3 => .c
  | 4 => .po
  | 5 => .pe
  | 6 => .p
  | _ => .m

def Cond.code : Cond → Nat
  | .nz => 0
  | .z => 1
  | .nc => 2
  | .c => 3
  | .po => 4
  | .pe => 5
  | .p => 6
  | .m => 7

/-- `cc[y − 4]` of `JR cc,e` (R474). -/
def JrCond.ofCode : Nat → JrCond
  | 0 => .nz
  | 1 => .z
  | 2 => .nc
  | _ => .c

def JrCond.code : JrCond → Nat
  | .nz => 0
  | .z => 1
  | .nc => 2
  | .c => 3

/-- The field `y` or `z` of an opcode as an index. -/
def field3 (k : Nat) : Fin 8 := Fin.ofNat 8 k

/-! ### The fields of an opcode byte (R106) -/

def fieldX (op : Byte) : Nat := op.toNat / 64
def fieldY (op : Byte) : Nat := op.toNat / 8 % 8
def fieldZ (op : Byte) : Nat := op.toNat % 8

/-- The `IX` or the `IY` form of an instruction. -/
def Index.pick (xy : Index) (forIx forIy : Instr) : Instr :=
  match xy with
  | .ix => forIx
  | .iy => forIy

/-! ### The operation rows `alu[y]` and `rot[y]` (R123, R125, R285, R400) -/

def aluR (y : Nat) (r : Reg8) : Instr :=
  match y with
  | 0 => .addAR r
  | 1 => .adcAR r
  | 2 => .subR r
  | 3 => .sbcAR r
  | 4 => .andR r
  | 5 => .xorR r
  | 6 => .orR r
  | _ => .cpR r

def aluAtHl (y : Nat) : Instr :=
  match y with
  | 0 => .addAAtHl
  | 1 => .adcAAtHl
  | 2 => .subAtHl
  | 3 => .sbcAAtHl
  | 4 => .andAtHl
  | 5 => .xorAtHl
  | 6 => .orAtHl
  | _ => .cpAtHl

def aluN (y : Nat) (n : Byte) : Instr :=
  match y with
  | 0 => .addAN n
  | 1 => .adcAN n
  | 2 => .subN n
  | 3 => .sbcAN n
  | 4 => .andN n
  | 5 => .xorN n
  | 6 => .orN n
  | _ => .cpN n

def aluHalf (xy : Index) (y : Nat) (h : Half) : Instr :=
  match y with
  | 0 => xy.pick (.addAIxh h) (.addAIyh h)
  | 1 => xy.pick (.adcAIxh h) (.adcAIyh h)
  | 2 => xy.pick (.subIxh h) (.subIyh h)
  | 3 => xy.pick (.sbcAIxh h) (.sbcAIyh h)
  | 4 => xy.pick (.andIxh h) (.andIyh h)
  | 5 => xy.pick (.xorIxh h) (.xorIyh h)
  | 6 => xy.pick (.orIxh h) (.orIyh h)
  | _ => xy.pick (.cpIxh h) (.cpIyh h)

def aluIndexed (xy : Index) (y : Nat) (d : Byte) : Instr :=
  match y with
  | 0 => xy.pick (.addAAtIx d) (.addAAtIy d)
  | 1 => xy.pick (.adcAAtIx d) (.adcAAtIy d)
  | 2 => xy.pick (.subAtIx d) (.subAtIy d)
  | 3 => xy.pick (.sbcAAtIx d) (.sbcAAtIy d)
  | 4 => xy.pick (.andAtIx d) (.andAtIy d)
  | 5 => xy.pick (.xorAtIx d) (.xorAtIy d)
  | 6 => xy.pick (.orAtIx d) (.orAtIy d)
  | _ => xy.pick (.cpAtIx d) (.cpAtIy d)

def rotR (y : Nat) (r : Reg8) : Instr :=
  match y with
  | 0 => .rlcR r
  | 1 => .rrcR r
  | 2 => .rlR r
  | 3 => .rrR r
  | 4 => .slaR r
  | 5 => .sraR r
  | 6 => .sllR r
  | _ => .srlR r

def rotAtHl (y : Nat) : Instr :=
  match y with
  | 0 => .rlcAtHl
  | 1 => .rrcAtHl
  | 2 => .rlAtHl
  | 3 => .rrAtHl
  | 4 => .slaAtHl
  | 5 => .sraAtHl
  | 6 => .sllAtHl
  | _ => .srlAtHl

def rotIndexed (xy : Index) (y : Nat) (d : Byte) : Instr :=
  match y with
  | 0 => xy.pick (.rlcAtIx d) (.rlcAtIy d)
  | 1 => xy.pick (.rrcAtIx d) (.rrcAtIy d)
  | 2 => xy.pick (.rlAtIx d) (.rlAtIy d)
  | 3 => xy.pick (.rrAtIx d) (.rrAtIy d)
  | 4 => xy.pick (.slaAtIx d) (.slaAtIy d)
  | 5 => xy.pick (.sraAtIx d) (.sraAtIy d)
  | 6 => xy.pick (.sllAtIx d) (.sllAtIy d)
  | _ => xy.pick (.srlAtIx d) (.srlAtIy d)

def rotCopy (xy : Index) (y : Nat) (d : Byte) (r : Reg8) : Instr :=
  match y with
  | 0 => xy.pick (.rlcAtIxR d r) (.rlcAtIyR d r)
  | 1 => xy.pick (.rrcAtIxR d r) (.rrcAtIyR d r)
  | 2 => xy.pick (.rlAtIxR d r) (.rlAtIyR d r)
  | 3 => xy.pick (.rrAtIxR d r) (.rrAtIyR d r)
  | 4 => xy.pick (.slaAtIxR d r) (.slaAtIyR d r)
  | 5 => xy.pick (.sraAtIxR d r) (.sraAtIyR d r)
  | 6 => xy.pick (.sllAtIxR d r) (.sllAtIyR d r)
  | _ => xy.pick (.srlAtIxR d r) (.srlAtIyR d r)

/-! ### The planes -/

/-- Base plane, `x = 0` (R123). `n` and `n2` are the two bytes behind the opcode. -/
def readBase0 (y z : Nat) (n n2 : Byte) : Elem :=
  match z with
  | 0 =>
    match y with
    | 0 => ⟨.nop, 1⟩
    | 1 => ⟨.exAfAf, 1⟩
    | 2 => ⟨.djnzE n, 2⟩
    | 3 => ⟨.jrE n, 2⟩
    | y => ⟨.jrCcE (JrCond.ofCode (y - 4)) n, 2⟩
  | 1 => if y % 2 = 0 then ⟨.ldDdNn (Pair.ofCode (y / 2)) (joinBytes n2 n), 3⟩ else ⟨.addHlSs (Pair.ofCode (y / 2)), 1⟩
  | 2 =>
    match y with
    | 0 => ⟨.ldAtBcA, 1⟩
    | 1 => ⟨.ldAAtBc, 1⟩
    | 2 => ⟨.ldAtDeA, 1⟩
    | 3 => ⟨.ldAAtDe, 1⟩
    | 4 => ⟨.ldAtNnHl (joinBytes n2 n), 3⟩
    | 5 => ⟨.ldHlAtNn (joinBytes n2 n), 3⟩
    | 6 => ⟨.ldAtNnA (joinBytes n2 n), 3⟩
    | _ => ⟨.ldAAtNn (joinBytes n2 n), 3⟩
  | 3 => if y % 2 = 0 then ⟨.incSs (Pair.ofCode (y / 2)), 1⟩ else ⟨.decSs (Pair.ofCode (y / 2)), 1⟩
  | 4 =>
    match Reg8.ofCode y with
    | some r => ⟨.incR r, 1⟩
    | none => ⟨.incAtHl, 1⟩
  | 5 =>
    match Reg8.ofCode y with
    | some r => ⟨.decR r, 1⟩
    | none => ⟨.decAtHl, 1⟩
  | 6 =>
    match Reg8.ofCode y with
    | some r => ⟨.ldRN r n, 2⟩
    | none => ⟨.ldAtHlN n, 2⟩
  | _ =>
    match y with
    | 0 => ⟨.rlca, 1⟩
    | 1 => ⟨.rrca, 1⟩
    | 2 => ⟨.rla, 1⟩
    | 3 => ⟨.rra, 1⟩
    | 4 => ⟨.daa, 1⟩
    | 5 => ⟨.cpl, 1⟩
    | 6 => ⟨.scf, 1⟩
    | _ => ⟨.ccf, 1⟩

/-- Base plane, `x = 1`: `LD r8[y],r8[z]`, and `76` is `HALT` (R123, R151). -/
def readBase1 (y z : Nat) : Elem :=
  match Reg8.ofCode y, Reg8.ofCode z with
  | some r, some r' => ⟨.ldRR r r', 1⟩
  | some r, none => ⟨.ldRAtHl r, 1⟩
  | none, some r => ⟨.ldAtHlR r, 1⟩
  | none, none => ⟨.halt, 1⟩

/-- Base plane, `x = 2`: `alu[y] r8[z]` (R123, R285). -/
def readBase2 (y z : Nat) : Elem :=
  match Reg8.ofCode z with
  | some r => ⟨aluR y r, 1⟩
  | none => ⟨aluAtHl y, 1⟩

/-- Base plane, `x = 3` (R123). -/
def readBase3 (y z : Nat) (n n2 : Byte) : Elem :=
  match z with
  | 0 => ⟨.retCc (Cond.ofCode y), 1⟩
  | 1 =>
    match y with
    | 1 => ⟨.ret, 1⟩
    | 3 => ⟨.exx, 1⟩
    | 5 => ⟨.jpAtHl, 1⟩
    | 7 => ⟨.ldSpHl, 1⟩
    | y => ⟨.popQq (StackPair.ofCode (y / 2)), 1⟩
  | 2 => ⟨.jpCcNn (Cond.ofCode y) (joinBytes n2 n), 3⟩
  | 3 =>
    match y with
    | 0 => ⟨.jpNn (joinBytes n2 n), 3⟩
    | 1 => ⟨.prefixCb, 1⟩
    | 2 => ⟨.outAtNA n, 2⟩
    | 3 => ⟨.inAAtN n, 2⟩
    | 4 => ⟨.exAtSpHl, 1⟩
    | 5 => ⟨.exDeHl, 1⟩
    | 6 => ⟨.di, 1⟩
    | _ => ⟨.ei, 1⟩
  | 4 => ⟨.callCcNn (Cond.ofCode y) (joinBytes n2 n), 3⟩
  | 5 =>
    match y with
    | 1 => ⟨.callNn (joinBytes n2 n), 3⟩
    | 3 => ⟨.prefixDd, 1⟩
    | 5 => ⟨.prefixEd, 1⟩
    | 7 => ⟨.prefixFd, 1⟩
    | y => ⟨.pushQq (StackPair.ofCode (y / 2)), 1⟩
  | 6 => ⟨aluN y n, 2⟩
  | _ => ⟨.rstP (field3 y), 1⟩

/-- The base plane (R123). -/
def readBase (op n n2 : Byte) : Elem :=
  match fieldX op with
  | 0 => readBase0 (fieldY op) (fieldZ op) n n2
  | 1 => readBase1 (fieldY op) (fieldZ op)
  | 2 => readBase2 (fieldY op) (fieldZ op)
  | _ => readBase3 (fieldY op) (fieldZ op) n n2

/-- The `ED` plane, `x = 1` (R124). -/
def readEd1 (op n n2 : Byte) : Elem :=
  let y := fieldY op
  match fieldZ op with
  | 0 =>
    match Reg8.ofCode y with
    | some r => ⟨.inRAtC r, 1⟩
    | none => ⟨.inAtC, 1⟩
  | 1 =>
    match Reg8.ofCode y with
    | some r => ⟨.outAtCR r, 1⟩
    | none => ⟨.outAtC0, 1⟩
  | 2 => if y % 2 = 0 then ⟨.sbcHlSs (Pair.ofCode (y / 2)), 1⟩ else ⟨.adcHlSs (Pair.ofCode (y / 2)), 1⟩
  | 3 =>
    if y % 2 = 0 then ⟨.ldAtNnDd (joinBytes n2 n) (Pair.ofCode (y / 2)), 3⟩
    else ⟨.ldDdAtNn (Pair.ofCode (y / 2)) (joinBytes n2 n), 3⟩
  | 4 => ⟨.neg (field3 y), 1⟩
  | 5 => if y = 1 then ⟨.reti, 1⟩ else ⟨.retn (field3 y), 1⟩
  | 6 =>
    match imMode (field3 y) with
    | 0 => ⟨.im0 (field3 y), 1⟩
    | 1 => ⟨.im1 (field3 y), 1⟩
    | _ => ⟨.im2 (field3 y), 1⟩
  | _ =>
    match y with
    | 0 => ⟨.ldIA, 1⟩
    | 1 => ⟨.ldRA, 1⟩
    | 2 => ⟨.ldAI, 1⟩
    | 3 => ⟨.ldAR, 1⟩
    | 4 => ⟨.rrd, 1⟩
    | 5 => ⟨.rld, 1⟩
    | _ => ⟨.nopEd op, 1⟩

/-- The `ED` plane, `x = 2`: the block instructions at `y ≥ 4`, `z ≤ 3` (R124). -/
def readEd2 (op : Byte) : Elem :=
  match fieldY op, fieldZ op with
  | 4, 0 => ⟨.ldi, 1⟩
  | 4, 1 => ⟨.cpi, 1⟩
  | 4, 2 => ⟨.ini, 1⟩
  | 4, 3 => ⟨.outi, 1⟩
  | 5, 0 => ⟨.ldd, 1⟩
  | 5, 1 => ⟨.cpd, 1⟩
  | 5, 2 => ⟨.ind, 1⟩
  | 5, 3 => ⟨.outd, 1⟩
  | 6, 0 => ⟨.ldir, 1⟩
  | 6, 1 => ⟨.cpir, 1⟩
  | 6, 2 => ⟨.inir, 1⟩
  | 6, 3 => ⟨.otir, 1⟩
  | 7, 0 => ⟨.lddr, 1⟩
  | 7, 1 => ⟨.cpdr, 1⟩
  | 7, 2 => ⟨.indr, 1⟩
  | 7, 3 => ⟨.otdr, 1⟩
  | _, _ => ⟨.nopEd op, 1⟩

/-- The `ED` plane (R124): every opcode not assigned there is `NOP*`. -/
def readEd (op n n2 : Byte) : Elem :=
  match fieldX op with
  | 1 => readEd1 op n n2
  | 2 => readEd2 op
  | _ => ⟨.nopEd op, 1⟩

/-- The CB plane (R125). -/
def readCb (op : Byte) : Elem :=
  match fieldX op, Reg8.ofCode (fieldZ op) with
  | 0, some r => ⟨rotR (fieldY op) r, 1⟩
  | 0, none => ⟨rotAtHl (fieldY op), 1⟩
  | 1, some r => ⟨.bitBR (field3 (fieldY op)) r, 1⟩
  | 1, none => ⟨.bitBAtHl (field3 (fieldY op)), 1⟩
  | 2, some r => ⟨.resBR (field3 (fieldY op)) r, 1⟩
  | 2, none => ⟨.resBAtHl (field3 (fieldY op)), 1⟩
  | _, some r => ⟨.setBR (field3 (fieldY op)) r, 1⟩
  | _, none => ⟨.setBAtHl (field3 (fieldY op)), 1⟩

/-- The DDCB and FDCB planes: displacement, then opcode (R101 step 5, R126). -/
def readIndexedCb (xy : Index) (d op : Byte) : Elem :=
  let b := field3 (fieldY op)
  match fieldX op, Reg8.ofCode (fieldZ op) with
  | 0, some r => ⟨rotCopy xy (fieldY op) d r, 2⟩
  | 0, none => ⟨rotIndexed xy (fieldY op) d, 2⟩
  | 1, _ => ⟨xy.pick (.bitBAtIx b d (field3 (fieldZ op))) (.bitBAtIy b d (field3 (fieldZ op))), 2⟩
  | 2, some r => ⟨xy.pick (.resBAtIxR b d r) (.resBAtIyR b d r), 2⟩
  | 2, none => ⟨xy.pick (.resBAtIx b d) (.resBAtIy b d), 2⟩
  | _, some r => ⟨xy.pick (.setBAtIxR b d r) (.setBAtIyR b d r), 2⟩
  | _, none => ⟨xy.pick (.setBAtIx b d) (.setBAtIy b d), 2⟩

/-- The DD and FD planes, `x = 0`: what R127 lists, the base plane otherwise. -/
def readIndexed0 (xy : Index) (op n n2 : Byte) : Elem :=
  match fieldY op, fieldZ op with
  | 4, 1 => ⟨xy.pick (.ldIxNn (joinBytes n2 n)) (.ldIyNn (joinBytes n2 n)), 3⟩
  | 4, 2 => ⟨xy.pick (.ldAtNnIx (joinBytes n2 n)) (.ldAtNnIy (joinBytes n2 n)), 3⟩
  | 5, 2 => ⟨xy.pick (.ldIxAtNn (joinBytes n2 n)) (.ldIyAtNn (joinBytes n2 n)), 3⟩
  | 4, 3 => ⟨xy.pick .incIx .incIy, 1⟩
  | 5, 3 => ⟨xy.pick .decIx .decIy, 1⟩
  | 6, 4 => ⟨xy.pick (.incAtIx n) (.incAtIy n), 2⟩
  | 6, 5 => ⟨xy.pick (.decAtIx n) (.decAtIy n), 2⟩
  | 6, 6 => ⟨xy.pick (.ldAtIxN n n2) (.ldAtIyN n n2), 3⟩
  | y, 1 => if y % 2 = 1 then ⟨xy.pick (.addIxPp (IdxPair.ofCode (y / 2))) (.addIyPp (IdxPair.ofCode (y / 2))), 1⟩ else readBase op n n2
  | y, 4 =>
    match Half.ofCode y with
    | some h => ⟨xy.pick (.incIxh h) (.incIyh h), 1⟩
    | none => readBase op n n2
  | y, 5 =>
    match Half.ofCode y with
    | some h => ⟨xy.pick (.decIxh h) (.decIyh h), 1⟩
    | none => readBase op n n2
  | y, 6 =>
    match Half.ofCode y with
    | some h => ⟨xy.pick (.ldIxhN h n) (.ldIyhN h n), 2⟩
    | none => readBase op n n2
  | _, _ => readBase op n n2

/-- The DD and FD planes, `x = 1`: with a code 6 the other operand is a plain register (R116(b), R154, R156, R165). -/
def readIndexed1 (xy : Index) (op n : Byte) : Elem :=
  match IdxReg8.ofCode (fieldY op), IdxReg8.ofCode (fieldZ op) with
  | some p, some p' => ⟨.ldPP xy p p', 1⟩
  | _, _ =>
    match Reg8.ofCode (fieldY op), Reg8.ofCode (fieldZ op) with
    | some r, _ => ⟨xy.pick (.ldRAtIx r n) (.ldRAtIy r n), 2⟩
    | none, some r => ⟨xy.pick (.ldAtIxR n r) (.ldAtIyR n r), 2⟩
    | none, none => ⟨.halt, 1⟩

/-- The DD and FD planes, `x = 2`: `alu[y]` on `IXH`, `IXL`, `(IX+d)` or a plain register (R127, R285). -/
def readIndexed2 (xy : Index) (op n : Byte) : Elem :=
  match Half.ofCode (fieldZ op), Reg8.ofCode (fieldZ op) with
  | some h, _ => ⟨aluHalf xy (fieldY op) h, 1⟩
  | none, some r => ⟨aluR (fieldY op) r, 1⟩
  | none, none => ⟨aluIndexed xy (fieldY op) n, 2⟩

/-- The DD and FD planes, `x = 3` (R127, and the bytes that go on to another plane: R102, R124, R126). -/
def readIndexed3 (xy : Index) (op n n2 : Byte) : Elem :=
  match fieldY op, fieldZ op with
  | 4, 1 => ⟨xy.pick .popIx .popIy, 1⟩
  | 4, 3 => ⟨xy.pick .exAtSpIx .exAtSpIy, 1⟩
  | 4, 5 => ⟨xy.pick .pushIx .pushIy, 1⟩
  | 5, 1 => ⟨xy.pick .jpAtIx .jpAtIy, 1⟩
  | 7, 1 => ⟨xy.pick .ldSpIx .ldSpIy, 1⟩
  | 1, 3 => ⟨xy.pick .prefixDdCb .prefixFdCb, 1⟩
  | 3, 5 => ⟨xy.pick .prefixDdAfterDd .prefixDdAfterFd, 1⟩
  | 5, 5 => ⟨xy.pick .prefixEdAfterDd .prefixEdAfterFd, 1⟩
  | 7, 5 => ⟨xy.pick .prefixFdAfterDd .prefixFdAfterFd, 1⟩
  | _, _ => readBase op n n2

/-- The DD and FD planes (R116, R127). -/
def readIndexed (xy : Index) (op n n2 : Byte) : Elem :=
  match fieldX op with
  | 0 => readIndexed0 xy op n n2
  | 1 => readIndexed1 xy op n
  | 2 => readIndexed2 xy op n
  | _ => readIndexed3 xy op n n2

/-- One element of a cycle, from the plane reached so far and the next three bytes (R101 steps 3 to 6). -/
def readElem (p : Plane) (b0 b1 b2 : Byte) : Elem :=
  match p with
  | .base => readBase b0 b1 b2
  | .ed => readEd b0 b1 b2
  | .cb => readCb b0
  | .dd => readIndexed .ix b0 b1 b2
  | .fd => readIndexed .iy b0 b1 b2
  | .ddcb => readIndexedCb .ix b0 b1
  | .fdcb => readIndexedCb .iy b0 b1

/-- Whether the first byte of an element read in this plane is an M1 fetch: the bytes behind `DD CB` are not (R103). -/
def Plane.isM1 : Plane → Bool
  | .ddcb => false
  | .fdcb => false
  | _ => true

/-! ### A byte string -/

/-- What the decoder reads from a byte string: the instruction, the number of M1 fetches up to and with it, and the bytes left. -/
structure Decoded where
  instr : Instr
  m1 : Nat
  rest : List Byte
  deriving DecidableEq, Repr

/-- Why a byte string is rejected: it ends before the instruction does. -/
inductive DecodeError
  | truncated
  deriving DecidableEq, Repr

/-- Reads elements from plane `p` on until an instruction is complete or `need` bytes are read: the last element read, `m1` being
the M1 fetches before. -/
def decodeFrom (p : Plane) (need m1 : Nat) : List Byte → Except DecodeError Decoded
  | [] => .error .truncated
  | b :: rest =>
    let e := readElem p b (rest.getD 0 0) (rest.getD 1 0)
    let m1' := if p.isM1 then m1 + 1 else m1
    if e.instr.isPrefix && decide (1 < need) then decodeFrom e.instr.nextPlane (need - 1) m1' rest
    else if e.len ≤ rest.length + 1 then .ok ⟨e.instr, m1', rest.drop (e.len - 1)⟩
    else .error .truncated

/-- The instruction a byte string begins with. A string that ends within the plane-selecting bytes of a cycle is read as the
last of them. -/
def decode (bs : List Byte) : Except DecodeError Decoded := decodeFrom .base bs.length 0 bs

/-- `n` bytes of `w`, the least significant first. -/
def bytesOfNat : Nat → Nat → List Byte
  | 0, _ => []
  | n + 1, w => BitVec.ofNat 8 w :: bytesOfNat n (w / 256)

/-- The bytes of a row's word in fetch order, with operand bytes of zeros behind them up to four bytes, the longest instruction with one
index byte (R105). -/
def wordBytes (nbits w : Nat) : List Byte := bytesOfNat (nbits / 8) w ++ List.replicate (4 - nbits / 8) 0

/-- The instruction the decoder reads from a row of the opcode table: the element that the row's last byte belongs to. -/
def decodeTableWord (nbits w : Nat) : Option Instr :=
  match decodeFrom .base (nbits / 8) 0 (wordBytes nbits w) with
  | .ok d => some d.instr
  | .error _ => none

/-! ### The encoder -/

/-- The opcode byte with fields `x`, `y`, `z` (R106). -/
def opc (x y z : Nat) : Byte := BitVec.ofNat 8 (64 * x + 8 * y + z)

/-- The plane an instruction is encoded in (the rows of spec/opcode_table.json less those a wasted `DD` or `FD` makes). -/
def Instr.plane : Instr → Plane
  | .ldRAtIx _ _ => .dd
  | .ldRAtIy _ _ => .fd
  | .ldAtIxR _ _ => .dd
  | .ldAtIyR _ _ => .fd
  | .ldAtIxN _ _ => .dd
  | .ldAtIyN _ _ => .fd
  | .ldPP xy _ _ => match xy with | .ix => .dd | .iy => .fd
  | .ldIxhN _ _ => .dd
  | .ldIyhN _ _ => .fd
  | .ldIA => .ed
  | .ldRA => .ed
  | .ldAI => .ed
  | .ldAR => .ed
  | .ldIxNn _ => .dd
  | .ldIyNn _ => .fd
  | .ldDdAtNn _ _ => .ed
  | .ldIxAtNn _ => .dd
  | .ldIyAtNn _ => .fd
  | .ldAtNnDd _ _ => .ed
  | .ldAtNnIx _ => .dd
  | .ldAtNnIy _ => .fd
  | .ldSpIx => .dd
  | .ldSpIy => .fd
  | .pushIx => .dd
  | .pushIy => .fd
  | .popIx => .dd
  | .popIy => .fd
  | .exAtSpIx => .dd
  | .exAtSpIy => .fd
  | .ldi => .ed
  | .ldd => .ed
  | .ldir => .ed
  | .lddr => .ed
  | .cpi => .ed
  | .cpd => .ed
  | .cpir => .ed
  | .cpdr => .ed
  | .addAIxh _ => .dd
  | .addAAtIx _ => .dd
  | .addAIyh _ => .fd
  | .addAAtIy _ => .fd
  | .adcAIxh _ => .dd
  | .adcAAtIx _ => .dd
  | .adcAIyh _ => .fd
  | .adcAAtIy _ => .fd
  | .subIxh _ => .dd
  | .subAtIx _ => .dd
  | .subIyh _ => .fd
  | .subAtIy _ => .fd
  | .sbcAIxh _ => .dd
  | .sbcAAtIx _ => .dd
  | .sbcAIyh _ => .fd
  | .sbcAAtIy _ => .fd
  | .andIxh _ => .dd
  | .andAtIx _ => .dd
  | .andIyh _ => .fd
  | .andAtIy _ => .fd
  | .xorIxh _ => .dd
  | .xorAtIx _ => .dd
  | .xorIyh _ => .fd
  | .xorAtIy _ => .fd
  | .orIxh _ => .dd
  | .orAtIx _ => .dd
  | .orIyh _ => .fd
  | .orAtIy _ => .fd
  | .cpIxh _ => .dd
  | .cpAtIx _ => .dd
  | .cpIyh _ => .fd
  | .cpAtIy _ => .fd
  | .incIxh _ => .dd
  | .incAtIx _ => .dd
  | .incIyh _ => .fd
  | .incAtIy _ => .fd
  | .decIxh _ => .dd
  | .decAtIx _ => .dd
  | .decIyh _ => .fd
  | .decAtIy _ => .fd
  | .neg _ => .ed
  | .nopEd _ => .ed
  | .im0 _ => .ed
  | .im1 _ => .ed
  | .im2 _ => .ed
  | .addIxPp _ => .dd
  | .addIyPp _ => .fd
  | .adcHlSs _ => .ed
  | .sbcHlSs _ => .ed
  | .incIx => .dd
  | .incIy => .fd
  | .decIx => .dd
  | .decIy => .fd
  | .rlcR _ => .cb
  | .rlcAtHl => .cb
  | .rlcAtIx _ => .ddcb
  | .rlcAtIxR _ _ => .ddcb
  | .rlcAtIy _ => .fdcb
  | .rlcAtIyR _ _ => .fdcb
  | .rrcR _ => .cb
  | .rrcAtHl => .cb
  | .rrcAtIx _ => .ddcb
  | .rrcAtIxR _ _ => .ddcb
  | .rrcAtIy _ => .fdcb
  | .rrcAtIyR _ _ => .fdcb
  | .rlR _ => .cb
  | .rlAtHl => .cb
  | .rlAtIx _ => .ddcb
  | .rlAtIxR _ _ => .ddcb
  | .rlAtIy _ => .fdcb
  | .rlAtIyR _ _ => .fdcb
  | .rrR _ => .cb
  | .rrAtHl => .cb
  | .rrAtIx _ => .ddcb
  | .rrAtIxR _ _ => .ddcb
  | .rrAtIy _ => .fdcb
  | .rrAtIyR _ _ => .fdcb
  | .slaR _ => .cb
  | .slaAtHl => .cb
  | .slaAtIx _ => .ddcb
  | .slaAtIxR _ _ => .ddcb
  | .slaAtIy _ => .fdcb
  | .slaAtIyR _ _ => .fdcb
  | .sraR _ => .cb
  | .sraAtHl => .cb
  | .sraAtIx _ => .ddcb
  | .sraAtIxR _ _ => .ddcb
  | .sraAtIy _ => .fdcb
  | .sraAtIyR _ _ => .fdcb
  | .sllR _ => .cb
  | .sllAtHl => .cb
  | .sllAtIx _ => .ddcb
  | .sllAtIxR _ _ => .ddcb
  | .sllAtIy _ => .fdcb
  | .sllAtIyR _ _ => .fdcb
  | .srlR _ => .cb
  | .srlAtHl => .cb
  | .srlAtIx _ => .ddcb
  | .srlAtIxR _ _ => .ddcb
  | .srlAtIy _ => .fdcb
  | .srlAtIyR _ _ => .fdcb
  | .rld => .ed
  | .rrd => .ed
  | .bitBR _ _ => .cb
  | .bitBAtHl _ => .cb
  | .bitBAtIx _ _ _ => .ddcb
  | .bitBAtIy _ _ _ => .fdcb
  | .setBR _ _ => .cb
  | .setBAtHl _ => .cb
  | .setBAtIx _ _ => .ddcb
  | .setBAtIxR _ _ _ => .ddcb
  | .setBAtIy _ _ => .fdcb
  | .setBAtIyR _ _ _ => .fdcb
  | .resBR _ _ => .cb
  | .resBAtHl _ => .cb
  | .resBAtIx _ _ => .ddcb
  | .resBAtIxR _ _ _ => .ddcb
  | .resBAtIy _ _ => .fdcb
  | .resBAtIyR _ _ _ => .fdcb
  | .jpAtIx => .dd
  | .jpAtIy => .fd
  | .reti => .ed
  | .retn _ => .ed
  | .inRAtC _ => .ed
  | .inAtC => .ed
  | .outAtCR _ => .ed
  | .outAtC0 => .ed
  | .ini => .ed
  | .ind => .ed
  | .inir => .ed
  | .indr => .ed
  | .outi => .ed
  | .outd => .ed
  | .otir => .ed
  | .otdr => .ed
  | .prefixDdCb => .dd
  | .prefixDdAfterDd => .dd
  | .prefixEdAfterDd => .dd
  | .prefixFdAfterDd => .dd
  | .prefixFdCb => .fd
  | .prefixDdAfterFd => .fd
  | .prefixEdAfterFd => .fd
  | .prefixFdAfterFd => .fd
  | _ => .base

/-- The bytes that lead from the base plane to a plane, each read once (R101, R104). -/
def Plane.lead : Plane → List Byte
  | .base => []
  | .ed => [0xED]
  | .cb => [0xCB]
  | .dd => [0xDD]
  | .fd => [0xFD]
  | .ddcb => [0xDD, 0xCB]
  | .fdcb => [0xFD, 0xCB]

/-- The bytes of one element, from the encodings of files 40 to 49 of spec/. -/
def encodeElem : Instr → List Byte
  | .ldRR r r' => [opc 1 r.code r'.code]
  | .ldRN r n => [opc 0 r.code 6, n]
  | .ldRAtHl r => [opc 1 r.code 6]
  | .ldRAtIx r d => [opc 1 r.code 6, d]
  | .ldRAtIy r d => [opc 1 r.code 6, d]
  | .ldAtHlR r => [opc 1 6 r.code]
  | .ldAtIxR d r => [opc 1 6 r.code, d]
  | .ldAtIyR d r => [opc 1 6 r.code, d]
  | .ldAtHlN n => [opc 0 6 6, n]
  | .ldAtIxN d n => [opc 0 6 6, d, n]
  | .ldAtIyN d n => [opc 0 6 6, d, n]
  | .ldAAtBc => [opc 0 1 2]
  | .ldAAtDe => [opc 0 3 2]
  | .ldAAtNn nn => [opc 0 7 2, loByte nn, hiByte nn]
  | .ldAtBcA => [opc 0 0 2]
  | .ldAtDeA => [opc 0 2 2]
  | .ldAtNnA nn => [opc 0 6 2, loByte nn, hiByte nn]
  | .ldPP _ p p' => [opc 1 p.code p'.code]
  | .ldIxhN h n => [opc 0 h.code 6, n]
  | .ldIyhN h n => [opc 0 h.code 6, n]
  | .ldIA => [opc 1 0 7]
  | .ldRA => [opc 1 1 7]
  | .ldAI => [opc 1 2 7]
  | .ldAR => [opc 1 3 7]
  | .ldDdNn dd nn => [opc 0 (2 * dd.code) 1, loByte nn, hiByte nn]
  | .ldIxNn nn => [opc 0 4 1, loByte nn, hiByte nn]
  | .ldIyNn nn => [opc 0 4 1, loByte nn, hiByte nn]
  | .ldHlAtNn nn => [opc 0 5 2, loByte nn, hiByte nn]
  | .ldDdAtNn dd nn => [opc 1 (2 * dd.code + 1) 3, loByte nn, hiByte nn]
  | .ldIxAtNn nn => [opc 0 5 2, loByte nn, hiByte nn]
  | .ldIyAtNn nn => [opc 0 5 2, loByte nn, hiByte nn]
  | .ldAtNnHl nn => [opc 0 4 2, loByte nn, hiByte nn]
  | .ldAtNnDd nn dd => [opc 1 (2 * dd.code) 3, loByte nn, hiByte nn]
  | .ldAtNnIx nn => [opc 0 4 2, loByte nn, hiByte nn]
  | .ldAtNnIy nn => [opc 0 4 2, loByte nn, hiByte nn]
  | .ldSpHl => [opc 3 7 1]
  | .ldSpIx => [opc 3 7 1]
  | .ldSpIy => [opc 3 7 1]
  | .pushQq qq => [opc 3 (2 * qq.code) 5]
  | .pushIx => [opc 3 4 5]
  | .pushIy => [opc 3 4 5]
  | .popQq qq => [opc 3 (2 * qq.code) 1]
  | .popIx => [opc 3 4 1]
  | .popIy => [opc 3 4 1]
  | .exDeHl => [opc 3 5 3]
  | .exAfAf => [opc 0 1 0]
  | .exx => [opc 3 3 1]
  | .exAtSpHl => [opc 3 4 3]
  | .exAtSpIx => [opc 3 4 3]
  | .exAtSpIy => [opc 3 4 3]
  | .ldi => [opc 2 4 0]
  | .ldd => [opc 2 5 0]
  | .ldir => [opc 2 6 0]
  | .lddr => [opc 2 7 0]
  | .cpi => [opc 2 4 1]
  | .cpd => [opc 2 5 1]
  | .cpir => [opc 2 6 1]
  | .cpdr => [opc 2 7 1]
  | .addAR r => [opc 2 0 r.code]
  | .addAAtHl => [opc 2 0 6]
  | .addAN n => [opc 3 0 6, n]
  | .addAIxh h => [opc 2 0 h.code]
  | .addAAtIx d => [opc 2 0 6, d]
  | .addAIyh h => [opc 2 0 h.code]
  | .addAAtIy d => [opc 2 0 6, d]
  | .adcAR r => [opc 2 1 r.code]
  | .adcAAtHl => [opc 2 1 6]
  | .adcAN n => [opc 3 1 6, n]
  | .adcAIxh h => [opc 2 1 h.code]
  | .adcAAtIx d => [opc 2 1 6, d]
  | .adcAIyh h => [opc 2 1 h.code]
  | .adcAAtIy d => [opc 2 1 6, d]
  | .subR r => [opc 2 2 r.code]
  | .subAtHl => [opc 2 2 6]
  | .subN n => [opc 3 2 6, n]
  | .subIxh h => [opc 2 2 h.code]
  | .subAtIx d => [opc 2 2 6, d]
  | .subIyh h => [opc 2 2 h.code]
  | .subAtIy d => [opc 2 2 6, d]
  | .sbcAR r => [opc 2 3 r.code]
  | .sbcAAtHl => [opc 2 3 6]
  | .sbcAN n => [opc 3 3 6, n]
  | .sbcAIxh h => [opc 2 3 h.code]
  | .sbcAAtIx d => [opc 2 3 6, d]
  | .sbcAIyh h => [opc 2 3 h.code]
  | .sbcAAtIy d => [opc 2 3 6, d]
  | .andR r => [opc 2 4 r.code]
  | .andAtHl => [opc 2 4 6]
  | .andN n => [opc 3 4 6, n]
  | .andIxh h => [opc 2 4 h.code]
  | .andAtIx d => [opc 2 4 6, d]
  | .andIyh h => [opc 2 4 h.code]
  | .andAtIy d => [opc 2 4 6, d]
  | .xorR r => [opc 2 5 r.code]
  | .xorAtHl => [opc 2 5 6]
  | .xorN n => [opc 3 5 6, n]
  | .xorIxh h => [opc 2 5 h.code]
  | .xorAtIx d => [opc 2 5 6, d]
  | .xorIyh h => [opc 2 5 h.code]
  | .xorAtIy d => [opc 2 5 6, d]
  | .orR r => [opc 2 6 r.code]
  | .orAtHl => [opc 2 6 6]
  | .orN n => [opc 3 6 6, n]
  | .orIxh h => [opc 2 6 h.code]
  | .orAtIx d => [opc 2 6 6, d]
  | .orIyh h => [opc 2 6 h.code]
  | .orAtIy d => [opc 2 6 6, d]
  | .cpR r => [opc 2 7 r.code]
  | .cpAtHl => [opc 2 7 6]
  | .cpN n => [opc 3 7 6, n]
  | .cpIxh h => [opc 2 7 h.code]
  | .cpAtIx d => [opc 2 7 6, d]
  | .cpIyh h => [opc 2 7 h.code]
  | .cpAtIy d => [opc 2 7 6, d]
  | .incR r => [opc 0 r.code 4]
  | .incAtHl => [opc 0 6 4]
  | .incIxh h => [opc 0 h.code 4]
  | .incAtIx d => [opc 0 6 4, d]
  | .incIyh h => [opc 0 h.code 4]
  | .incAtIy d => [opc 0 6 4, d]
  | .decR r => [opc 0 r.code 5]
  | .decAtHl => [opc 0 6 5]
  | .decIxh h => [opc 0 h.code 5]
  | .decAtIx d => [opc 0 6 5, d]
  | .decIyh h => [opc 0 h.code 5]
  | .decAtIy d => [opc 0 6 5, d]
  | .daa => [opc 0 4 7]
  | .cpl => [opc 0 5 7]
  | .neg y => [opc 1 y.val 4]
  | .ccf => [opc 0 7 7]
  | .scf => [opc 0 6 7]
  | .nop => [opc 0 0 0]
  | .nopEd op => [op]
  | .halt => [opc 1 6 6]
  | .di => [opc 3 6 3]
  | .ei => [opc 3 7 3]
  | .im0 y => [opc 1 y.val 6]
  | .im1 y => [opc 1 y.val 6]
  | .im2 y => [opc 1 y.val 6]
  | .addHlSs ss => [opc 0 (2 * ss.code + 1) 1]
  | .addIxPp pp => [opc 0 (2 * pp.code + 1) 1]
  | .addIyPp pp => [opc 0 (2 * pp.code + 1) 1]
  | .adcHlSs ss => [opc 1 (2 * ss.code + 1) 2]
  | .sbcHlSs ss => [opc 1 (2 * ss.code) 2]
  | .incSs ss => [opc 0 (2 * ss.code) 3]
  | .incIx => [opc 0 4 3]
  | .incIy => [opc 0 4 3]
  | .decSs ss => [opc 0 (2 * ss.code + 1) 3]
  | .decIx => [opc 0 5 3]
  | .decIy => [opc 0 5 3]
  | .rlca => [opc 0 0 7]
  | .rrca => [opc 0 1 7]
  | .rla => [opc 0 2 7]
  | .rra => [opc 0 3 7]
  | .rlcR r => [opc 0 0 r.code]
  | .rlcAtHl => [opc 0 0 6]
  | .rlcAtIx d => [d, opc 0 0 6]
  | .rlcAtIxR d r => [d, opc 0 0 r.code]
  | .rlcAtIy d => [d, opc 0 0 6]
  | .rlcAtIyR d r => [d, opc 0 0 r.code]
  | .rrcR r => [opc 0 1 r.code]
  | .rrcAtHl => [opc 0 1 6]
  | .rrcAtIx d => [d, opc 0 1 6]
  | .rrcAtIxR d r => [d, opc 0 1 r.code]
  | .rrcAtIy d => [d, opc 0 1 6]
  | .rrcAtIyR d r => [d, opc 0 1 r.code]
  | .rlR r => [opc 0 2 r.code]
  | .rlAtHl => [opc 0 2 6]
  | .rlAtIx d => [d, opc 0 2 6]
  | .rlAtIxR d r => [d, opc 0 2 r.code]
  | .rlAtIy d => [d, opc 0 2 6]
  | .rlAtIyR d r => [d, opc 0 2 r.code]
  | .rrR r => [opc 0 3 r.code]
  | .rrAtHl => [opc 0 3 6]
  | .rrAtIx d => [d, opc 0 3 6]
  | .rrAtIxR d r => [d, opc 0 3 r.code]
  | .rrAtIy d => [d, opc 0 3 6]
  | .rrAtIyR d r => [d, opc 0 3 r.code]
  | .slaR r => [opc 0 4 r.code]
  | .slaAtHl => [opc 0 4 6]
  | .slaAtIx d => [d, opc 0 4 6]
  | .slaAtIxR d r => [d, opc 0 4 r.code]
  | .slaAtIy d => [d, opc 0 4 6]
  | .slaAtIyR d r => [d, opc 0 4 r.code]
  | .sraR r => [opc 0 5 r.code]
  | .sraAtHl => [opc 0 5 6]
  | .sraAtIx d => [d, opc 0 5 6]
  | .sraAtIxR d r => [d, opc 0 5 r.code]
  | .sraAtIy d => [d, opc 0 5 6]
  | .sraAtIyR d r => [d, opc 0 5 r.code]
  | .sllR r => [opc 0 6 r.code]
  | .sllAtHl => [opc 0 6 6]
  | .sllAtIx d => [d, opc 0 6 6]
  | .sllAtIxR d r => [d, opc 0 6 r.code]
  | .sllAtIy d => [d, opc 0 6 6]
  | .sllAtIyR d r => [d, opc 0 6 r.code]
  | .srlR r => [opc 0 7 r.code]
  | .srlAtHl => [opc 0 7 6]
  | .srlAtIx d => [d, opc 0 7 6]
  | .srlAtIxR d r => [d, opc 0 7 r.code]
  | .srlAtIy d => [d, opc 0 7 6]
  | .srlAtIyR d r => [d, opc 0 7 r.code]
  | .rld => [opc 1 5 7]
  | .rrd => [opc 1 4 7]
  | .bitBR b r => [opc 1 b.val r.code]
  | .bitBAtHl b => [opc 1 b.val 6]
  | .bitBAtIx b d z => [d, opc 1 b.val z.val]
  | .bitBAtIy b d z => [d, opc 1 b.val z.val]
  | .setBR b r => [opc 3 b.val r.code]
  | .setBAtHl b => [opc 3 b.val 6]
  | .setBAtIx b d => [d, opc 3 b.val 6]
  | .setBAtIxR b d r => [d, opc 3 b.val r.code]
  | .setBAtIy b d => [d, opc 3 b.val 6]
  | .setBAtIyR b d r => [d, opc 3 b.val r.code]
  | .resBR b r => [opc 2 b.val r.code]
  | .resBAtHl b => [opc 2 b.val 6]
  | .resBAtIx b d => [d, opc 2 b.val 6]
  | .resBAtIxR b d r => [d, opc 2 b.val r.code]
  | .resBAtIy b d => [d, opc 2 b.val 6]
  | .resBAtIyR b d r => [d, opc 2 b.val r.code]
  | .jpNn nn => [opc 3 0 3, loByte nn, hiByte nn]
  | .jpCcNn cc nn => [opc 3 cc.code 2, loByte nn, hiByte nn]
  | .jrE e => [opc 0 3 0, e]
  | .jrCcE cc e => [opc 0 (4 + cc.code) 0, e]
  | .jpAtHl => [opc 3 5 1]
  | .jpAtIx => [opc 3 5 1]
  | .jpAtIy => [opc 3 5 1]
  | .djnzE e => [opc 0 2 0, e]
  | .callNn nn => [opc 3 1 5, loByte nn, hiByte nn]
  | .callCcNn cc nn => [opc 3 cc.code 4, loByte nn, hiByte nn]
  | .ret => [opc 3 1 1]
  | .retCc cc => [opc 3 cc.code 0]
  | .reti => [opc 1 1 5]
  | .retn y => [opc 1 y.val 5]
  | .rstP p => [opc 3 p.val 7]
  | .inAAtN n => [opc 3 3 3, n]
  | .inRAtC r => [opc 1 r.code 0]
  | .inAtC => [opc 1 6 0]
  | .outAtNA n => [opc 3 2 3, n]
  | .outAtCR r => [opc 1 r.code 1]
  | .outAtC0 => [opc 1 6 1]
  | .ini => [opc 2 4 2]
  | .ind => [opc 2 5 2]
  | .inir => [opc 2 6 2]
  | .indr => [opc 2 7 2]
  | .outi => [opc 2 4 3]
  | .outd => [opc 2 5 3]
  | .otir => [opc 2 6 3]
  | .otdr => [opc 2 7 3]
  | .prefixCb => [0xCB]
  | .prefixDd => [0xDD]
  | .prefixEd => [0xED]
  | .prefixFd => [0xFD]
  | .prefixDdCb => [0xCB]
  | .prefixDdAfterDd => [0xDD]
  | .prefixEdAfterDd => [0xED]
  | .prefixFdAfterDd => [0xFD]
  | .prefixFdCb => [0xCB]
  | .prefixDdAfterFd => [0xDD]
  | .prefixEdAfterFd => [0xED]
  | .prefixFdAfterFd => [0xFD]

/-- The bytes of an instruction. -/
def encode (i : Instr) : List Byte := i.plane.lead ++ encodeElem i

end Sys2Proof
end

