-- ==== Sys2Proof/Machine/Fetch.lean ====
section
/-! DEFINITION. Fetching one element of a cycle (spec/30_encoding.md R101, R103; 20_memory.md R74). -/

namespace Sys2Proof.Machine

/-- The element at `PC`, read from memory at each execution (R74, R84). No element is longer than three bytes. -/
def fetchElem (s : State) : Elem := readElem s.plane (s.readByte s.pc) (s.readByte (s.pc + 1)) (s.readByte (s.pc + 2))

/-- `PC` past the element's bytes, `R` counted when its first byte is an M1 fetch (R44, R103), and the plane choice used up. -/
def State.advance (s : State) (e : Elem) : State :=
  { s with pc := s.pc + BitVec.ofNat 16 e.len, r := if s.plane.isM1 then incR s.r else s.r, plane := .base }

/-- The bytes at `PC`, `n` of them, wrapping (R74). -/
def State.codeBytes (s : State) : Nat → List Byte
  | 0 => []
  | n + 1 => s.readByte s.pc :: State.codeBytes { s with pc := s.pc + 1 } n

/-- `IncR()`, `n` times. -/
def incRBy : Nat → Byte → Byte
  | 0, r => r
  | n + 1, r => incRBy n (incR r)

/-- Stores a list of bytes from an address on, wrapping. -/
def State.placeBytes (s : State) (a : Word) : List Byte → State
  | [] => s
  | v :: vs => (s.writeByte a v).placeBytes (a + 1) vs

end Sys2Proof.Machine
end

