-- ==== Sys2Proof/Machine/Cycle.lean ====
section
/-! DEFINITION. The instruction cycle (spec/30_encoding.md R101 steps 2 to 6). -/

namespace Sys2Proof.Machine

/-- More elements than any cycle that ends can have: 65 535 bytes `DD` or `FD`, and the instruction (R641). -/
def cycleFuel : Nat := 65540

/-- Reads and runs elements until an instruction has run: the bytes that select a plane are elements of the same cycle (R102). Running
out of fuel is the stuck cycle of R641. -/
def instructionCycle : Nat → State → Result
  | 0, _ => .fault .endlessPrefixes
  | n + 1, s =>
    let e := fetchElem s
    if e.instr.isPrefix then
      match exec e.instr (s.advance e) with
      | .next t => instructionCycle n t
      | stop => stop
    else exec e.instr (s.advance e)

/-- One cycle: the trap test on the `PC` at its start, once, then decoding with no `pfx` (R101 steps 2 and 3, R561, D16). -/
def runCycle (s : State) : Result :=
  if Config.magicAddress ≤ s.pc then trapCycle s else instructionCycle cycleFuel { s with plane := .base }

/-- The environment's clock at a cycle boundary: one cycle less until the signal (R585). -/
def State.tick (s : State) : State := { s with signal := s.signal.map (· - 1) }

/-- A cycle boundary and what follows: `terminate` first, then a signal that is due, then a cycle (R101, R586, R590). -/
def boundary (s : State) : Result :=
  if s.terminate then .next s
  else if s.signal = some 0 then .next (deliverSignal s)
  else runCycle s.tick

/-- Where `withFetchWord` puts a program: at `PC`, or at the launch address when `PC` is in the magic page (no instruction is fetched
there, R561). -/
def State.fetchAddress (s : State) : Word := if Config.magicAddress ≤ s.pc then Config.launchPc else s.pc

/-- A state whose next step fetches: not terminated (the reason as R48 keeps it), no signal due, `PC` outside the magic page. -/
def State.readyToFetch (s : State) : State :=
  { s with
    pc := s.fetchAddress,
    terminate := false,
    termReason := if s.terminate then .okNotRun else s.termReason,
    signal := if s.signal = some 0 then none else s.signal }

end Sys2Proof.Machine
end

