-- ==== Sys2Proof/Machine/Step.lean ====
section
/-! DEFINITION. One step of the machine, and the placing of one instruction where the next step fetches. -/

namespace Sys2Proof.Machine

/-- One step: nothing once `terminate` is set, the delivery of a signal, a trap cycle, or an instruction cycle (R100, R101). -/
def step (s : State) : Host.Outcome State Fault Refusal := boundary s

/-- The state with one instruction of the opcode table stored where the next step fetches, zeros behind it. For this
one instruction it stands for the load of a program; the loader itself is `launchState` (R620, R624, log entry 5). -/
def State.withFetchWord (s : State) (nbits w : Nat) : State :=
  s.readyToFetch.placeBytes s.fetchAddress (wordBytes nbits w)

end Sys2Proof.Machine
end

