-- ==== Sys2Proof/Machine/Loader.lean ====
section
/-! DEFINITION. The launch (spec/70_reset_and_hazards.md R620 to R624): the states in which a run of a program may begin. The loader is no
step of the machine; log entry 5. -/

namespace Sys2Proof.Machine

/-- What the loader takes from outside: the program image `P`, and the environment's data of R622. -/
structure Launch where
  program : List Byte
  /-- Byte `0004`: default drive in the low nibble, user number in the high one. -/
  driveUser : Byte
  fcb1 : List Byte
  fcb2 : List Byte
  /-- The command tail, its length byte apart. -/
  tail : List Byte
  /-- The fake disk parameter block and allocation vector. -/
  dpb : List Byte
  alv : List Byte
  deriving DecidableEq, Repr

/-- A lower-case letter. -/
def isLower (v : Byte) : Bool := decide (0x61 ≤ v.toNat) && decide (v.toNat ≤ 0x7A)

/-- Whether two regions, each a start and a length, are disjoint (R622). -/
def apart (a n b m : Nat) : Bool := decide (a + n ≤ b) || decide (b + m ≤ a)

/-- The conditions D19, R622 and R623 put on the open addresses. `WBOOT_TARGET` and the pre-pushed word lead to the WBOOT trap. Top down:
the magic page, the serial number and the 16 bytes of the stack (`SP_INIT` its top slot), the BIOS vector, the disk parameter block
and the allocation vector, with the BDOS stub below the vector too; all disjoint, and above the TPA. -/
def layoutOk (y : Config.Layout) : Bool :=
  (y.wbootTarget == 0xFFEF || y.wbootTarget == y.biosVector + 3) &&
  (y.wbootReturn == 0x0000 || y.wbootReturn == 0xFFEF || y.wbootReturn == y.biosVector + 3) &&
  decide (y.serialNumber.toNat + 6 ≤ 0xFFED) && decide (y.spInit.toNat + 2 ≤ 0xFFED) &&
  apart y.serialNumber.toNat 6 (y.spInit.toNat - 14) 16 &&
  decide (y.biosVector.toNat + 54 ≤ y.serialNumber.toNat) && decide (y.biosVector.toNat + 54 + 14 ≤ y.spInit.toNat) &&
  decide (y.bdosStart.toNat + 11 ≤ y.biosVector.toNat) && decide (y.dpbStart.toNat + 15 ≤ y.biosVector.toNat) &&
  decide (y.alvStart.toNat + 64 ≤ y.biosVector.toNat) &&
  apart y.bdosStart.toNat 11 y.dpbStart.toNat 15 && apart y.bdosStart.toNat 11 y.alvStart.toNat 64 &&
  apart y.dpbStart.toNat 15 y.alvStart.toNat 64 &&
  decide (y.tpaEnd < y.bdosStart) && decide (y.tpaEnd < y.dpbStart) && decide (y.tpaEnd < y.alvStart) && decide (0x00FF ≤ y.tpaEnd)

/-- The bounds of R622 and D19: the image lies in `0100` to `TPA_END`, below the BDOS stub; the tail is upper case and has at most 127
characters; each region has its length. -/
def Launch.fits (l : Launch) (y : Config.Layout) : Bool :=
  decide (0x0100 + l.program.length ≤ y.tpaEnd.toNat + 1) && decide (l.fcb1.length = 16) && decide (l.fcb2.length = 16) &&
    decide (l.tail.length ≤ 127) && l.tail.all (fun v => !isLower v) && decide (l.dpb.length = 15) && decide (l.alv.length = 64)

/-- A word in memory order, low byte first (R75). -/
def wordLowFirst (w : Word) : List Byte := [loByte w, hiByte w]

/-- `JP w` (R471). -/
def jumpTo (w : Word) : List Byte := 0xC3 :: wordLowFirst w

/-- The 18 entries of the BIOS vector (R80). -/
def biosEntries : List Byte := (List.range 18).flatMap fun k => jumpTo (Config.magicAddress + 1 + BitVec.ofNat 16 k)

/-- The regions whose bytes the spec fixes: the zero page's two jumps and the IOBYTE, the BDOS stub's jump, the BIOS vector, the serial
number, the pre-pushed word, the magic page (R622). -/
def layoutRegions (y : Config.Layout) : List (Word × List Byte) :=
  [(0x0000, jumpTo y.wbootTarget ++ [0x00]), (0x0005, jumpTo y.bdosStart), (y.bdosStart, jumpTo Config.magicAddress),
    (y.biosVector, biosEntries), (y.serialNumber, [0x00, 0x16, 0x00, 0xC0, 0xFF, 0xEE]), (y.spInit, wordLowFirst y.wbootReturn),
    (Config.magicAddress, List.replicate 19 0xC9)]

/-- The regions the loader fills with what it is given (R622). -/
def Launch.regions (l : Launch) (y : Config.Layout) : List (Word × List Byte) :=
  [(0x0004, [l.driveUser]), (0x005C, l.fcb1), (0x006C, l.fcb2), (0x0080, BitVec.ofNat 8 l.tail.length :: l.tail), (0x0100, l.program),
    (y.dpbStart, l.dpb), (y.alvStart, l.alv)]

/-- Stores of whole regions. -/
def State.placeRegions (s : State) : List (Word × List Byte) → State
  | [] => s
  | (a, vs) :: rs => (s.placeBytes a vs).placeRegions rs

/-- The registers at launch (R52, R621): `any` holds what the spec leaves arbitrary, all but `PC`, `SP` and the termination state (D18). -/
def launchRegisters (any : State) (y : Config.Layout) : State :=
  { any with
    pc := Config.launchPc, sp := y.spInit, terminate := false, termReason := .okNotRun, plane := .base, dma := Config.defaultDma,
    dpbAddr := y.dpbStart, alvAddr := y.alvStart }

/-- The launch state (R620 to R624) of a program under a layout (R7, D19). `any` holds what the spec leaves arbitrary: the registers, and
the bytes of memory no region describes (D18, U11). A layout against the spec's conditions has none, nor has a program for which the
loader fails (R620: image too large). -/
def launchState (any : State) (y : Config.Layout) (l : Launch) : Option State :=
  if layoutOk y && l.fits y then some ((launchRegisters any y).placeRegions (layoutRegions y ++ l.regions y)) else none

end Sys2Proof.Machine
end

