-- ==== Sys2Proof/Safety.lean ====
section
/-! DEFINITION. What is true of the machine at every cycle boundary, and a safe run in the terms claims use. -/

namespace Sys2Proof.Machine

/-- The invariant of a cycle boundary: the memory is in its canonical form; `terminate` and `term_reason` are set together (R48); no
plane choice is left over from a cycle (R101 step 3). -/
abbrev State.Inv (s : State) : Prop :=
  s.mem.wf = true ∧ (s.terminate = false ↔ s.termReason = .okNotRun) ∧ s.plane = .base

/-- The machine goes on from `s`: the step has a successor state. -/
def State.goesOn (s : State) : Prop := ∃ t, step s = .next t

/-- A state whose next step is an instruction cycle: no termination, no signal due, `PC` below the magic page (R101). -/
abbrev State.running (s : State) : Prop :=
  s.terminate = false ∧ s.signal ≠ some 0 ∧ s.pc < Config.magicAddress

end Sys2Proof.Machine
end

