-- ==== Sys2Proof/Certificates/Slice0/Obligations.lean ====
section
/-! DEFINITION. The statements for the provers. Under `Sys2Proof.Claims` stand the formulas of the spec's rules, written from the rules'
own words with natural numbers and integers, not with the model's flag computations. -/

namespace Sys2Proof.Claims

open Sys2Proof.Machine

/-! ### Shapes of a statement -/

/-- The instruction runs and leaves exactly the state `u`: every register, flag and byte of memory not changed in `u` is as in `s`. -/
def Gives (i : Instr) (s u : State) : Prop := exec i s = .next u

/-- The instruction runs; apart from memory it leaves exactly `u`; of memory it stores the byte `v` at `a`, and every other address
reads as before. -/
def StoresByte (i : Instr) (s u : State) (a : Word) (v : Byte) : Prop :=
  ∃ t, exec i s = .next t ∧ { t with mem := s.mem } = u ∧
    ∀ x : Word, t.readByte x = if x = a then v else s.readByte x

/-- The same for a word: its low byte at `a`, its high byte at `a + 1` (which wraps). -/
def StoresWord (i : Instr) (s u : State) (a w : Word) : Prop :=
  ∃ t, exec i s = .next t ∧ { t with mem := s.mem } = u ∧
    ∀ x : Word, t.readByte x =
      if x = a then w.setWidth 8 else if x = a + 1 then (w >>> 8).setWidth 8 else s.readByte x

/-- The lead byte of an index register's plane (R102). -/
def lead : Index → Byte
  | .ix => 0xDD
  | .iy => 0xFD

/-- A word of two bytes (R8). -/
def word (hi lo : Byte) : Word := BitVec.ofNat 16 (256 * hi.toNat + lo.toNat)

/-- The bytes of a 16-bit immediate, low first (R117). -/
def imm16 (nn : Word) : List Byte := [nn.setWidth 8, (nn >>> 8).setWidth 8]

/-- `v` has an even number of 1 bits (R8). -/
def even (v : Byte) : Bool := (List.range 8).countP (fun k => v.getLsbD k) % 2 == 0

/-- An opcode byte computed from a table row's base value. -/
def op (base field : Nat) : Byte := BitVec.ofNat 8 (base + field)

/-! ### The 8-bit formulas (R282 to R284) -/

/-- `Add8(a, v, c)` (R282). -/
def add8 (a v : Byte) (c : Bool) : Byte × Flags :=
  let s := a.toNat + v.toNat + c.toNat
  let r : Byte := BitVec.ofNat 8 s
  (r,
    { s := r.getLsbD 7, z := decide (r = 0), y := r.getLsbD 5, x := r.getLsbD 3,
      h := decide ((a &&& 0x0F).toNat + (v &&& 0x0F).toNat + c.toNat > 0x0F),
      pv := decide (a.getLsbD 7 = v.getLsbD 7 ∧ r.getLsbD 7 ≠ a.getLsbD 7),
      n := false, c := decide (s > 0xFF) })

/-- `Sub8(a, v, c)` (R283), the difference an integer. -/
def sub8 (a v : Byte) (c : Bool) : Byte × Flags :=
  let s : Int := (a.toNat : Int) - v.toNat - c.toNat
  let r : Byte := BitVec.ofInt 8 s
  (r,
    { s := r.getLsbD 7, z := decide (r = 0), y := r.getLsbD 5, x := r.getLsbD 3,
      h := decide (((a &&& 0x0F).toNat : Int) - (v &&& 0x0F).toNat - c.toNat < 0),
      pv := decide (a.getLsbD 7 ≠ v.getLsbD 7 ∧ r.getLsbD 7 ≠ a.getLsbD 7),
      n := true, c := decide (s < 0) })

/-- `Logic(r, h)` (R284). -/
def logic (r : Byte) (h : Bool) : Flags :=
  { s := r.getLsbD 7, z := decide (r = 0), y := r.getLsbD 5, x := r.getLsbD 3, h := h, pv := even r, n := false, c := false }

/-- The operation `alu[y]` on `A` and `v`: the new `A` and flags (R286 to R293). -/
def aluResult (y : Fin 8) (a v : Byte) (c : Bool) : Byte × Flags :=
  match y with
  | 0 => add8 a v false
  | 1 => add8 a v c
  | 2 => sub8 a v false
  | 3 => sub8 a v c
  | 4 => (a &&& v, logic (a &&& v) true)
  | 5 => (a ^^^ v, logic (a ^^^ v) false)
  | 6 => (a ||| v, logic (a ||| v) false)
  | 7 => (a, { (sub8 a v false).2 with y := v.getLsbD 5, x := v.getLsbD 3 })

/-- What a form of `alu[y]` claims: its encodings and its effect for every source form (R285). -/
def AluForms (y : Fin 8) (onR : Reg8 → Instr) (onHl : Instr) (onN : Byte → Instr) (onHalf : Index → Half → Instr)
    (onIndexed : Index → Byte → Instr) : Prop :=
  let after (s : State) (v : Byte) : State := { s with a := (aluResult y s.a v s.f.c).1, f := (aluResult y s.a v s.f.c).2 }
  (∀ r s, encode (onR r) = [op (0x80 + 8 * y) r.code] ∧ Gives (onR r) s (after s (s.reg8 r))) ∧
  (∀ s, encode onHl = [op (0x86 + 8 * y) 0] ∧ Gives onHl s (after s (s.readByte s.hl))) ∧
  (∀ n s, encode (onN n) = [op (0xC6 + 8 * y) 0, n] ∧ Gives (onN n) s (after s n)) ∧
  (∀ xy h s, encode (onHalf xy h) = [lead xy, op (0x80 + 8 * y) (match h with
      | .hi => 4
      | .lo => 5)] ∧ Gives (onHalf xy h) s (after s (s.half xy h))) ∧
  (∀ xy d s, encode (onIndexed xy d) = [lead xy, op (0x86 + 8 * y) 0, d] ∧
    Gives (onIndexed xy d) s { after s (s.readByte (s.ea xy d)) with latch := s.ea xy d })

/-- The flags of `INC m` from the old value (R301). -/
def incFlags (f : Flags) (v : Byte) : Flags :=
  let r : Byte := BitVec.ofNat 8 (v.toNat + 1)
  { s := r.getLsbD 7, z := decide (r = 0), y := r.getLsbD 5, x := r.getLsbD 3, h := decide (v &&& 0x0F = 0x0F),
    pv := decide (v = 0x7F), n := false, c := f.c }

/-- The flags of `DEC m` from the old value (R302). -/
def decFlags (f : Flags) (v : Byte) : Flags :=
  let r : Byte := BitVec.ofNat 8 (v.toNat + 255)
  { s := r.getLsbD 7, z := decide (r = 0), y := r.getLsbD 5, x := r.getLsbD 3, h := decide (v &&& 0x0F = 0),
    pv := decide (v = 0x80), n := true, c := f.c }

/-- What `INC m` (or `DEC m`) claims for every operand form (R300); `o` is the table's 0 or 1, `next` the new value. -/
def StepForms (o : Nat) (next : Byte → Byte) (flags : Flags → Byte → Flags) (onR : Reg8 → Instr) (onHl : Instr)
    (onHalf : Index → Half → Instr) (onIndexed : Index → Byte → Instr) : Prop :=
  (∀ r s, encode (onR r) = [op (0x04 + o) (8 * r.code)] ∧
    Gives (onR r) s { s.setReg8 r (next (s.reg8 r)) with f := flags s.f (s.reg8 r) }) ∧
  (∀ s, encode onHl = [op (0x34 + o) 0] ∧
    StoresByte onHl s { s with f := flags s.f (s.readByte s.hl) } s.hl (next (s.readByte s.hl))) ∧
  (∀ xy h s, encode (onHalf xy h) = [lead xy, op (match h with
      | .hi => 0x24
      | .lo => 0x2C) o] ∧
    Gives (onHalf xy h) s { s.setHalf xy h (next (s.half xy h)) with f := flags s.f (s.half xy h) }) ∧
  (∀ xy d s, encode (onIndexed xy d) = [lead xy, op (0x34 + o) 0, d] ∧
    StoresByte (onIndexed xy d) s
      { s with f := flags s.f (s.readByte (s.ea xy d)), latch := s.ea xy d } (s.ea xy d) (next (s.readByte (s.ea xy d))))

/-! ### The 16-bit formulas (R361 to R364) -/

/-- `ADD HL,ss`: result and flags (R361). -/
def add16 (f : Flags) (a v : Word) : Word × Flags :=
  let s := a.toNat + v.toNat
  (BitVec.ofNat 16 s,
    { f with
      h := decide (a.toNat % 4096 + v.toNat % 4096 > 0x0FFF), c := decide (s > 0xFFFF), n := false,
      y := s.testBit 13, x := s.testBit 11 })

/-- `ADC HL,ss`: result and flags (R363). -/
def adc16 (a v : Word) (c : Bool) : Word × Flags :=
  let s := a.toNat + v.toNat + c.toNat
  let r : Word := BitVec.ofNat 16 s
  (r,
    { s := r.getLsbD 15, z := decide (r = 0), y := r.getLsbD 13, x := r.getLsbD 11,
      h := decide (a.toNat % 4096 + v.toNat % 4096 + c.toNat > 0x0FFF),
      pv := decide (a.getLsbD 15 = v.getLsbD 15 ∧ r.getLsbD 15 ≠ a.getLsbD 15), n := false, c := decide (s > 0xFFFF) })

/-- `SBC HL,ss`: result and flags (R364). -/
def sbc16 (a v : Word) (c : Bool) : Word × Flags :=
  let s : Int := (a.toNat : Int) - v.toNat - c.toNat
  let r : Word := BitVec.ofInt 16 s
  (r,
    { s := r.getLsbD 15, z := decide (r = 0), y := r.getLsbD 13, x := r.getLsbD 11,
      h := decide (((a.toNat % 4096 : Nat) : Int) - (v.toNat % 4096 : Nat) - c.toNat < 0),
      pv := decide (a.getLsbD 15 ≠ v.getLsbD 15 ∧ r.getLsbD 15 ≠ a.getLsbD 15), n := true, c := decide (s < 0) })

/-! ### Rotates and shifts (R391 to R394, R400 to R408) -/

/-- `rot[y]` on `v` with the old carry: the result, and the bit shifted out (R401 to R408). -/
def rotResult (y : Fin 8) (v : Byte) (c : Bool) : Byte × Bool :=
  let left (low : Nat) : Byte × Bool := (BitVec.ofNat 8 (2 * v.toNat + low), v.getLsbD 7)
  let right (high : Nat) : Byte × Bool := (BitVec.ofNat 8 (v.toNat / 2 + 128 * high), v.getLsbD 0)
  match y with
  | 0 => left (v.getLsbD 7).toNat
  | 1 => right (v.getLsbD 0).toNat
  | 2 => left c.toNat
  | 3 => right c.toNat
  | 4 => left 0
  | 5 => right (v.getLsbD 7).toNat
  | 6 => left 1
  | 7 => right 0

/-- The flags of a CB rotate or shift (R400). -/
def rotFlags (r : Byte) (c : Bool) : Flags :=
  { s := r.getLsbD 7, z := decide (r = 0), y := r.getLsbD 5, x := r.getLsbD 3, h := false, pv := even r, n := false, c := c }

/-- What the forms of `rot[y]` claim (R400). -/
def RotForms (y : Fin 8) (onR : Reg8 → Instr) (onHl : Instr) (onIndexed : Index → Byte → Instr)
    (onCopy : Index → Byte → Reg8 → Instr) : Prop :=
  let value (s : State) (v : Byte) : Byte := (rotResult y v s.f.c).1
  let flags (s : State) (v : Byte) : Flags := rotFlags (value s v) (rotResult y v s.f.c).2
  (∀ r s, encode (onR r) = [0xCB, op (8 * y) r.code] ∧
    Gives (onR r) s { s.setReg8 r (value s (s.reg8 r)) with f := flags s (s.reg8 r) }) ∧
  (∀ s, encode onHl = [0xCB, op (8 * y) 6] ∧
    StoresByte onHl s { s with f := flags s (s.readByte s.hl) } s.hl (value s (s.readByte s.hl))) ∧
  (∀ xy d s, encode (onIndexed xy d) = [lead xy, 0xCB, d, op (8 * y) 6] ∧
    StoresByte (onIndexed xy d) s { s with f := flags s (s.readByte (s.ea xy d)), latch := s.ea xy d }
      (s.ea xy d) (value s (s.readByte (s.ea xy d)))) ∧
  (∀ xy d r s, encode (onCopy xy d r) = [lead xy, 0xCB, d, op (8 * y) r.code] ∧
    StoresByte (onCopy xy d r) s
      { s.setReg8 r (value s (s.readByte (s.ea xy d))) with
        f := flags s (s.readByte (s.ea xy d)), latch := s.ea xy d }
      (s.ea xy d) (value s (s.readByte (s.ea xy d))))

/-- What the forms of `SET b,m` (`xx` = 3) or `RES b,m` (`xx` = 2) claim (R450). -/
def BitForms (xx : Nat) (change : Fin 8 → Byte → Byte) (onR : Fin 8 → Reg8 → Instr) (onHl : Fin 8 → Instr)
    (onIndexed : Index → Fin 8 → Byte → Instr) (onCopy : Index → Fin 8 → Byte → Reg8 → Instr) : Prop :=
  (∀ b r s, encode (onR b r) = [0xCB, op (64 * xx + 8 * b) r.code] ∧
    Gives (onR b r) s (s.setReg8 r (change b (s.reg8 r)))) ∧
  (∀ b s, encode (onHl b) = [0xCB, op (64 * xx + 8 * b) 6] ∧
    StoresByte (onHl b) s s s.hl (change b (s.readByte s.hl))) ∧
  (∀ xy b d s, encode (onIndexed xy b d) = [lead xy, 0xCB, d, op (64 * xx + 8 * b) 6] ∧
    StoresByte (onIndexed xy b d) s { s with latch := s.ea xy d } (s.ea xy d) (change b (s.readByte (s.ea xy d)))) ∧
  (∀ xy b d r s, encode (onCopy xy b d r) = [lead xy, 0xCB, d, op (64 * xx + 8 * b) r.code] ∧
    StoresByte (onCopy xy b d r) s { s.setReg8 r (change b (s.readByte (s.ea xy d))) with latch := s.ea xy d }
      (s.ea xy d) (change b (s.readByte (s.ea xy d))))

/-- The value `v` with bit `b` set to `t`, bit by bit. -/
def putBit (t : Bool) (b : Fin 8) (v : Byte) : Byte :=
  BitVec.ofNat 8 ((List.range 8).foldl (fun n k => n + 2 ^ k * (if k = b.val then t else v.getLsbD k).toNat) 0)

/-- The flags every `BIT` form sets (R441), `fY` and `fX` as given. -/
def bitFlags (f : Flags) (v : Byte) (b : Fin 8) (y x : Bool) : Flags :=
  { z := !v.getLsbD b.val, pv := !v.getLsbD b.val, s := decide (b = 7 ∧ v.getLsbD b.val = true), h := true, n := false, c := f.c,
    y := y, x := x }

/-! ### Block instructions and input (R250, R254, R522, R530) -/

/-- The pointer's move of a block instruction: `+1` or `−1` modulo 65 536. -/
def moved (up : Bool) (w : Word) : Word := BitVec.ofNat 16 (if up then w.toNat + 1 else w.toNat + 65535)

/-- `LDI`, `LDD`: the flags (R250). -/
def loadFlags (s : State) : Flags :=
  let n := s.readByte s.hl + s.a
  { s.f with h := false, n := false, pv := decide (s.bc.toNat ≠ 1), y := n.getLsbD 1, x := n.getLsbD 3 }

/-- `CPI`, `CPD`: the flags (R254). -/
def compareFlags (s : State) : Flags :=
  let t := s.readByte s.hl
  let r : Byte := BitVec.ofInt 8 ((s.a.toNat : Int) - t.toNat)
  let hb := decide ((s.a &&& 0x0F).toNat < (t &&& 0x0F).toNat)
  let n : Byte := BitVec.ofInt 8 ((r.toNat : Int) - hb.toNat)
  { s := r.getLsbD 7, z := decide (r = 0), h := hb, n := true, pv := decide (s.bc.toNat ≠ 1), y := n.getLsbD 1, x := n.getLsbD 3,
    c := s.f.c }

/-- `BlockIOFlags(t, k)` with the decremented `B` (R530). -/
def blockIoFlags (b t : Byte) (k : Nat) : Flags :=
  { s := b.getLsbD 7, z := decide (b = 0), y := b.getLsbD 5, x := b.getLsbD 3, n := t.getLsbD 7, h := decide (k > 0xFF),
    c := decide (k > 0xFF), pv := even (BitVec.ofNat 8 (k % 8) ^^^ b) }

/-- The flags of `IN r,(C)`: set from 0, `fC` unchanged (R522). -/
def inFlags (f : Flags) : Flags :=
  { s := false, z := true, y := false, h := false, x := false, pv := true, n := false, c := f.c }

/-- `PC` of a repeating block instruction afterwards: back to the `ED` byte while it repeats (R260). -/
def repeatPc (again : Bool) (s : State) : Word := if again then s.pc - 2 else s.pc

/-! ### Conditions (R113) -/

/-- When a condition holds. -/
def condHolds (cc : Cond) (f : Flags) : Prop :=
  match cc with
  | .nz => f.z = false
  | .z => f.z = true
  | .nc => f.c = false
  | .c => f.c = true
  | .po => f.pv = false
  | .pe => f.pv = true
  | .p => f.s = false
  | .m => f.s = true

/-- The condition of `JR cc,e` as a condition code. -/
def jrCond : JrCond → Cond
  | .nz => .nz
  | .z => .z
  | .nc => .nc
  | .c => .c

/-! ### Sets of instructions named by a whole-machine rule -/

/-- The instructions that write `SP` (R35), the trap return apart. -/
def writesSp : Instr → Bool
  | .ldDdNn .sp _ | .ldDdAtNn .sp _ | .ldSpHl | .ldSpIx | .ldSpIy | .incSs .sp | .decSs .sp
  | .pushQq _ | .pushIx | .pushIy | .popQq _ | .popIx | .popIy
  | .callNn _ | .callCcNn _ _ | .ret | .retCc _ | .reti | .retn _ | .rstP _ => true
  | _ => false

/-- The instructions that store to memory. -/
def storesMemory : Instr → Bool
  | .ldAtHlR _ | .ldAtIxR _ _ | .ldAtIyR _ _ | .ldAtHlN _ | .ldAtIxN _ _ | .ldAtIyN _ _ | .ldAtBcA | .ldAtDeA | .ldAtNnA _
  | .ldAtNnHl _ | .ldAtNnDd _ _ | .ldAtNnIx _ | .ldAtNnIy _ | .pushQq _ | .pushIx | .pushIy
  | .exAtSpHl | .exAtSpIx | .exAtSpIy | .ldi | .ldd | .ldir | .lddr | .ini | .ind | .inir | .indr
  | .incAtHl | .incAtIx _ | .incAtIy _ | .decAtHl | .decAtIx _ | .decAtIy _ | .rld | .rrd
  | .rlcAtHl | .rrcAtHl | .rlAtHl | .rrAtHl | .slaAtHl | .sraAtHl | .sllAtHl | .srlAtHl
  | .rlcAtIx _ | .rrcAtIx _ | .rlAtIx _ | .rrAtIx _ | .slaAtIx _ | .sraAtIx _ | .sllAtIx _ | .srlAtIx _
  | .rlcAtIy _ | .rrcAtIy _ | .rlAtIy _ | .rrAtIy _ | .slaAtIy _ | .sraAtIy _ | .sllAtIy _ | .srlAtIy _
  | .rlcAtIxR _ _ | .rrcAtIxR _ _ | .rlAtIxR _ _ | .rrAtIxR _ _ | .slaAtIxR _ _ | .sraAtIxR _ _ | .sllAtIxR _ _ | .srlAtIxR _ _
  | .rlcAtIyR _ _ | .rrcAtIyR _ _ | .rlAtIyR _ _ | .rrAtIyR _ _ | .slaAtIyR _ _ | .sraAtIyR _ _ | .sllAtIyR _ _ | .srlAtIyR _ _
  | .setBAtHl _ | .resBAtHl _ | .setBAtIx _ _ | .resBAtIx _ _ | .setBAtIy _ _ | .resBAtIy _ _
  | .setBAtIxR _ _ _ | .resBAtIxR _ _ _ | .setBAtIyR _ _ _ | .resBAtIyR _ _ _
  | .callNn _ | .callCcNn _ _ | .rstP _ => true
  | _ => false

/-- The displacement of an indexed memory operand, and its index register (R115). -/
def indexedBy (i : Instr) : Option (Index × Byte) :=
  match i.plane, encode i with
  | .ddcb, [_, _, d, _] => some (.ix, d)
  | .fdcb, [_, _, d, _] => some (.iy, d)
  | .dd, _ :: o :: d :: _ => if indexedOpcodes.contains o.toNat then some (.ix, d) else none
  | .fd, _ :: o :: d :: _ => if indexedOpcodes.contains o.toNat then some (.iy, d) else none
  | _, _ => none
where
  /-- `Indexed(b)` (R114). -/
  indexedOpcodes : List Nat :=
    [0x34, 0x35, 0x36, 0x46, 0x4E, 0x56, 0x5E, 0x66, 0x6E, 0x7E, 0x70, 0x71, 0x72, 0x73, 0x74, 0x75, 0x77,
      0x86, 0x8E, 0x96, 0x9E, 0xA6, 0xAE, 0xB6, 0xBE]

/-- The BDOS function numbers the table of R573 does not name. -/
def bdosUnsupported (c : Nat) : Bool :=
  !([0, 1, 2, 3, 4, 5, 6, 7, 8, 9, 10, 11, 12, 13, 14, 15, 16, 17, 18, 19, 20, 21, 22, 23, 24, 25, 26, 27, 28, 29, 30, 31, 32, 33, 34,
    35, 36, 37, 40, 49, 101, 102, 105, 108, 141].contains c)

/-- The numbers of the file functions (R573). -/
def fileNumbers : List Nat := [15, 16, 17, 18, 19, 20, 21, 22, 23, 30, 33, 34, 35, 36, 40, 102]

/-- The opcodes of the base plane that read as a row of the `DD` and `FD` planes behind such a byte: the list of R127 (`40` to `7F` but
`76` are its rows of loads), and the bytes that go on to another plane. -/
def changedByIndex (b : Byte) : Bool :=
  match b.toNat / 64 with
  | 0 => [0x09, 0x19, 0x29, 0x39, 0x21, 0x22, 0x23, 0x24, 0x25, 0x26, 0x2A, 0x2B, 0x2C, 0x2D, 0x2E, 0x34, 0x35, 0x36].contains b.toNat
  | 1 => b.toNat != 0x76
  | 2 => [4, 5, 6].contains (b.toNat % 8)
  | _ => [0xCB, 0xE1, 0xE3, 0xE5, 0xE9, 0xF9, 0xDD, 0xED, 0xFD].contains b.toNat

/-- The plain register a code of `LD p,p'` names, if it names one (R165). -/
def plainReg : IdxReg8 → Option Reg8
  | .b => some .b
  | .c => some .c
  | .d => some .d
  | .e => some .e
  | .hi => none
  | .lo => none
  | .a => some .a

/-- The state of a trap cycle's start: nothing ends the run before, `PC` at a magic address (R561). -/
def trapping (s : State) (offset : Nat) : Prop :=
  s.terminate = false ∧ s.signal ≠ some 0 ∧ s.pc.toNat = 0xFFED + offset

/-- A trap's return (R563) after a handler that wrote `A B H L` and no memory. -/
def returned (s : State) (a b h l : Byte) (env : Nat) : State :=
  { s.tick with a := a, b := b, h := h, l := l, env := env, pc := word (s.readByte (s.sp + 1)) (s.readByte s.sp), sp := s.sp + 2 }

/-! ### The launch -/

/-- What D19, R622 and R623 ask of the open addresses, for every address inside a region written out as a range. -/
def LayoutConditions (y : Config.Layout) : Prop :=
  let separate (a n b m : Nat) : Prop := a + n ≤ b ∨ b + m ≤ a
  let stub := y.bdosStart.toNat
  let vector := y.biosVector.toNat
  let dpb := y.dpbStart.toNat
  let alv := y.alvStart.toNat
  let serial := y.serialNumber.toNat
  let slot := y.spInit.toNat
  (y.wbootTarget = 0xFFEF ∨ y.wbootTarget = y.biosVector + 3) ∧
  (y.wbootReturn = 0x0000 ∨ y.wbootReturn = 0xFFEF ∨ y.wbootReturn = y.biosVector + 3) ∧
  (0xFF ≤ y.tpaEnd.toNat ∧ y.tpaEnd.toNat < stub ∧ y.tpaEnd.toNat < dpb ∧ y.tpaEnd.toNat < alv) ∧
  (stub + 11 ≤ vector ∧ dpb + 15 ≤ vector ∧ alv + 64 ≤ vector) ∧
  (separate stub 11 dpb 15 ∧ separate stub 11 alv 64 ∧ separate dpb 15 alv 64) ∧
  (vector + 54 ≤ serial ∧ vector + 54 + 14 ≤ slot ∧ separate serial 6 (slot - 14) 16) ∧
  serial + 6 ≤ 0xFFED ∧ slot + 2 ≤ 0xFFED

/-- An address that no row of R622 with stated or given bytes covers. -/
def undescribed (y : Config.Layout) (l : Launch) (a : Word) : Prop :=
  ∀ region ∈ [(0x0000, 8), (0x005C, 16), (0x006C, 16), (0x0080, 1 + l.tail.length), (0x0100, l.program.length), (y.bdosStart.toNat, 3),
      (y.dpbStart.toNat, 15), (y.alvStart.toNat, 64), (y.biosVector.toNat, 54), (y.serialNumber.toNat, 6), (y.spInit.toNat, 2),
      (0xFFED, 19)],
    a.toNat < region.1 ∨ region.1 + region.2 ≤ a.toNat

/-- The launch of a program under any layout (R7, D19, R620 to R624): an image that reaches past `TPA_END` has no launch state; any other
has one, with `PC`, `SP` and the termination state of R621, every other register left arbitrary, and memory byte for byte as R622 says:
the image at `0100`, the environment's data, the fixed bytes, and every byte that no region describes left arbitrary. The fields for
the environment's DMA address and for the places of its blocks are the model's (log entries 32 and 2). -/
def LaunchOfProgram : Prop :=
  ∀ (any : State) (y : Config.Layout) (l : Launch),
    (y.tpaEnd.toNat < 0x00FF + l.program.length → launchState any y l = none) ∧
    (LayoutConditions y →
      0x0100 + l.program.length ≤ y.tpaEnd.toNat + 1 → l.fcb1.length = 16 → l.fcb2.length = 16 → l.tail.length ≤ 127 →
      (∀ v ∈ l.tail, v.toNat < 0x61 ∨ 0x7A < v.toNat) → l.dpb.length = 15 → l.alv.length = 64 →
      ∃ t, launchState any y l = some t ∧
        t = { any with
          mem := t.mem, pc := 0x0100, sp := y.spInit, terminate := false, termReason := .okNotRun, plane := .base, dma := 0x0080,
          dpbAddr := y.dpbStart, alvAddr := y.alvStart } ∧
        (∀ k, k < l.program.length → t.readByte (0x0100 + BitVec.ofNat 16 k) = l.program.getD k 0) ∧
        t.readByte 0x0000 = 0xC3 ∧ t.readWord 0x0001 = y.wbootTarget ∧ t.readByte 0x0003 = 0 ∧ t.readByte 0x0004 = l.driveUser ∧
        t.readByte 0x0005 = 0xC3 ∧ t.readWord 0x0006 = y.bdosStart ∧
        (∀ k, k < 16 → t.readByte (0x005C + BitVec.ofNat 16 k) = l.fcb1.getD k 0) ∧
        (∀ k, k < 16 → t.readByte (0x006C + BitVec.ofNat 16 k) = l.fcb2.getD k 0) ∧
        t.readByte 0x0080 = BitVec.ofNat 8 l.tail.length ∧
        (∀ k, k < l.tail.length → t.readByte (0x0081 + BitVec.ofNat 16 k) = l.tail.getD k 0) ∧
        t.readByte y.bdosStart = 0xC3 ∧ t.readWord (y.bdosStart + 1) = 0xFFED ∧
        (∀ k, k < 15 → t.readByte (y.dpbStart + BitVec.ofNat 16 k) = l.dpb.getD k 0) ∧
        (∀ k, k < 64 → t.readByte (y.alvStart + BitVec.ofNat 16 k) = l.alv.getD k 0) ∧
        (∀ k : Fin 18, t.readByte (y.biosVector + BitVec.ofNat 16 (3 * k)) = 0xC3 ∧
          t.readWord (y.biosVector + BitVec.ofNat 16 (3 * k + 1)) = BitVec.ofNat 16 (0xFFEE + k)) ∧
        ((List.range 6).map fun k => t.readByte (y.serialNumber + BitVec.ofNat 16 k)) = [0x00, 0x16, 0x00, 0xC0, 0xFF, 0xEE] ∧
        t.readWord y.spInit = y.wbootReturn ∧ (∀ a : Word, 0xFFED ≤ a → t.readByte a = 0xC9) ∧
        (∀ a : Word, undescribed y l a → t.readByte a = any.readByte a))

end Sys2Proof.Claims

open Sys2Proof Sys2Proof.Machine Sys2Proof.Claims

/-! ## Encoding and the cycle -/

/-- Decoding an encoded instruction gives it back, all its bytes used, with the M1 fetches of R44: one in the base plane, two in every
other. Which fetches count is the spec's decision D2, D3 (log entry 15); that a byte which selects a plane decodes to a constructor of
its own is the model's choice (log entries 6 and 26). -/
def Obligations.DecodeOfEncode : Prop :=
  ∀ i : Instr, i.wellFormed = true → decode (encode i) = .ok ⟨i, if i.plane = .base then 1 else 2, []⟩

/-- The other direction, plane by plane: no three bytes are illegal in any plane (R120), what is read is well formed, at most three
bytes long, and its own encoding is exactly the bytes read. That no encoding is refused is the spec's decision D4 to D6 (log entry 20); that the
bytes of a cycle are read element by element is the model's choice (log entry 6). -/
def Obligations.EncodeOfReadElement : Prop :=
  ∀ (p : Plane) (b0 b1 b2 : Byte),
    let e := readElem p b0 b1 b2
    e.instr.wellFormed = true ∧ 1 ≤ e.len ∧ e.len ≤ 3 ∧ encodeElem e.instr = [b0, b1, b2].take e.len

/-- Words written out from the encodings of files 40 to 49 decode to the instructions they stand for. The copy form `DD CB 02 38` is the
spec's decision D6 (log entry 20). The last word is no encoding of these files: that `DD FD` alone decodes to the element that selects
the `FD` plane is the model's choice (log entries 6 and 26). -/
def Obligations.WordsOfTheSpecDecode : Prop :=
  (decode [0x78]).map (·.instr) = .ok (.ldRR .a .b) ∧
  (decode [0xDD, 0x66, 0xFF]).map (·.instr) = .ok (.ldRAtIx .h 0xFF) ∧
  (decode [0x11, 0x0E, 0x01]).map (·.instr) = .ok (.ldDdNn .de 0x010E) ∧
  (decode [0xED, 0x73, 0x00, 0x03]).map (·.instr) = .ok (.ldAtNnDd 0x0300 .sp) ∧
  (decode [0xDD, 0xE3]).map (·.instr) = .ok .exAtSpIx ∧
  (decode [0xED, 0xB0]).map (·.instr) = .ok .ldir ∧
  (decode [0xFD, 0x95]).map (·.instr) = .ok (.subIyh .lo) ∧
  (decode [0x27]).map (·.instr) = .ok .daa ∧
  (decode [0xED, 0x52]).map (·.instr) = .ok (.sbcHlSs .de) ∧
  (decode [0xDD, 0xCB, 0x02, 0x38]).map (·.instr) = .ok (.srlAtIxR 0x02 .b) ∧
  (decode [0xFD, 0xCB, 0xFF, 0xFE]).map (·.instr) = .ok (.setBAtIy 7 0xFF) ∧
  (decode [0x38, 0x02]).map (·.instr) = .ok (.jrCcE .c 0x02) ∧
  (decode [0xED, 0x78]).map (·.instr) = .ok (.inRAtC .a) ∧
  (decode [0xDD, 0xFD]).map (·.instr) = .ok .prefixFdAfterDd

/-- A step runs the decoded instruction: when the `n` bytes at `PC` are exactly one instruction with `m1` M1 fetches, lead bytes
included, the step is that instruction's meaning, run with `PC = PCn` and `R` counted `m1` times (R101, R150), a count being
`R <- R[7] ++ ((R[6:0] + 1) mod 128)` (R44; which fetches count is the spec's decision D2, D3, log entry 15). What the step adds
besides is the tick of a pending signal (log entry 7). -/
def Obligations.StepRunsDecodedInstruction : Prop :=
  (∀ (s : State) (n m1 : Nat) (i : Instr), s.running → n ≤ 65540 → decode (s.codeBytes n) = .ok ⟨i, m1, []⟩ → i.isPrefix = false →
    step s = exec i { s.tick with pc := s.pc + BitVec.ofNat 16 n, r := incRBy m1 s.r, plane := .base }) ∧
  (∀ (m1 : Nat) (r : Byte), (incRBy m1 r).toNat = 128 * (r.toNat / 128) + (r.toNat % 128 + m1) % 128)

/-- Any number of `DD` and `FD` bytes, in any mixture, may precede the rest; only the last decides (R102), and each counts in `R` (the
spec's decision D2, log entry 15). Before an opcode that R127 does not list as changed, `EX DE,HL` and `EXX` among them, and before every
instruction of the `ED` plane, such a byte costs its own M1 fetch and changes nothing (R116(c), R121(f), R124, R127; the spec's decision
D5, log entry 20). Before `LD r,r'` of two plain registers it reads as the row `LD p,p'` (R165), with the same effect. -/
def Obligations.LastIndexPrefixDecides : Prop :=
  (∀ (ps : List Byte) (q : Byte) (bs : List Byte), (∀ p ∈ ps, p = 0xDD ∨ p = 0xFD) → q = 0xDD ∨ q = 0xFD → bs ≠ [] →
    decode (ps ++ q :: bs) = (decode (q :: bs)).map fun d => { d with m1 := d.m1 + ps.length }) ∧
  (∀ (i : Instr) (xy : Index), i.wellFormed = true → i.isPrefix = false → i.plane = .base →
    (∀ b ∈ (encode i).head?, changedByIndex b = false) → decode (lead xy :: encode i) = .ok ⟨i, 2, []⟩) ∧
  (∀ (i : Instr) (xy : Index), i.wellFormed = true → i.plane = .ed → decode (lead xy :: encode i) = .ok ⟨i, 3, []⟩) ∧
  (∀ (xy : Index) (p p' : IdxReg8) (r r' : Reg8), plainReg p = some r → plainReg p' = some r' →
    decode (lead xy :: encode (.ldRR r r')) = .ok ⟨.ldPP xy p p', 2, []⟩ ∧ ∀ s, exec (.ldPP xy p p') s = exec (.ldRR r r') s)

/-- The one cycle that does not end: exactly when every byte of memory is `DD` or `FD` (R641, the spec's decision D23: log
entry 25). -/
def Obligations.CycleEndsUnlessAllPrefixes : Prop :=
  ∀ s : State, s.running →
    (step s = .fault .endlessPrefixes ↔ ∀ a : Word, s.readByte a = 0xDD ∨ s.readByte a = 0xFD)

/-- A byte that selects a plane changes nothing else; its own encoding, and the plane of the next byte (R102, R104, R124, R126). That
such a byte is an instruction of its own is the model's choice (log entry 6). -/
def Obligations.PrefixBytesSelectPlanes : Prop :=
  ∀ (i : Instr) (bytes : List Byte) (p : Plane) (s : State),
    (i, bytes, p) ∈ [
      (Instr.prefixCb, [0xCB], Plane.cb), (.prefixDd, [0xDD], .dd), (.prefixEd, [0xED], .ed), (.prefixFd, [0xFD], .fd),
      (.prefixDdCb, [0xDD, 0xCB], .ddcb), (.prefixDdAfterDd, [0xDD, 0xDD], .dd), (.prefixEdAfterDd, [0xDD, 0xED], .ed),
      (.prefixFdAfterDd, [0xDD, 0xFD], .fd), (.prefixFdCb, [0xFD, 0xCB], .fdcb), (.prefixDdAfterFd, [0xFD, 0xDD], .dd),
      (.prefixEdAfterFd, [0xFD, 0xED], .ed), (.prefixFdAfterFd, [0xFD, 0xFD], .fd)] →
    encode i = bytes ∧ Gives i s { s with plane := p }

/-! ## Termination, the signal, the trap -/

/-- Once `terminate` is set a step does nothing (R48, R586; that it answers the same state is the model's reading, log entry 13).
Before, a signal that is due ends the run with `ERR_SIGNAL` and changes no other state of the spec, and no instruction runs in that
step, wherever `PC` is (R585, R590). -/
def Obligations.TerminationAndSignalComeFirst : Prop :=
  ∀ s : State,
    (s.terminate = true → step s = .next s) ∧
    (s.terminate = false → s.signal = some 0 →
      step s = .next { s with terminate := true, termReason := .errSignal, signal := none })

/-- A trap cycle: `SP` moves by two, `PC` is the word on the stack after the handler, `R`, the flags and everything else the contract of
R571 does not name are unchanged (R562, R563). A reason is written exactly when `terminate` is, and it is the signal's only when a
signal arrives in this cycle (R590). The environment's DMA address changes by BDOS 13 and 26 alone (the model's field, log entry 32), and a
file function stores to the FCB at `DE` and to the 128 bytes at that address alone (R573; the FCB's 36 bytes are presumed, log entry
32). -/
def Obligations.TrapCycleFrame : Prop :=
  ∀ (s t : State) (offset : Nat), trapping s offset → step s = .next t →
    t.sp = s.sp + 2 ∧ t.pc = word (t.readByte (s.sp + 1)) (t.readByte s.sp) ∧
    t.c = s.c ∧ t.d = s.d ∧ t.e = s.e ∧ t.f = s.f ∧ t.ix = s.ix ∧ t.iy = s.iy ∧
    t.a' = s.a' ∧ t.f' = s.f' ∧ t.b' = s.b' ∧ t.c' = s.c' ∧ t.d' = s.d' ∧ t.e' = s.e' ∧ t.h' = s.h' ∧ t.l' = s.l' ∧
    t.i = s.i ∧ t.r = s.r ∧ t.iff = s.iff ∧ t.latch = s.latch ∧ t.plane = s.plane ∧
    (¬(offset = 0 ∧ (s.c.toNat = 13 ∨ s.c.toNat = 26)) → t.dma = s.dma) ∧ t.dpbAddr = s.dpbAddr ∧ t.alvAddr = s.alvAddr ∧
    (offset = 0 → fileNumbers.contains s.c.toNat = true →
      ∀ x : Word, 36 ≤ (x - s.de).toNat → 128 ≤ (x - s.dma).toNat → t.readByte x = s.readByte x) ∧
    (t.terminate = false → t.termReason = s.termReason) ∧
    (t.terminate = true → t.termReason ≠ .okNotRun ∧ (t.termReason = .errSignal → s.signal = some 1))

/-- The BDOS functions whose effect the spec states. With an 8-bit result, and the unsupported ones: `A = L = v`, `B = H = 0`, then the
return; BDOS 11 answers `FF` or `00`. BDOS 8 stores `E` at `0003`, and nothing else. BDOS 9 with a `$` from `DE` on does not end the run
(R572, R573). That no other byte of memory changes is the model's reading of rows that state no store (log entry 9), that the search for
the `$` does not wrap its reading of "past memory end" (log entry 27). -/
def Obligations.BdosByteResults : Prop :=
  (∀ (s : State) (v : Byte), trapping s 0 →
    (s.c.toNat = 7 ∧ v = s.readByte 0x0003) ∨ (s.c.toNat = 12 ∧ v = 0x22) ∨ (s.c.toNat = 101 ∧ v = 0x61) ∨
      (bdosUnsupported s.c.toNat = true ∧ v = 0) →
    ∃ env, step s = .next (returned s v 0 0 v env)) ∧
  (∀ s : State, trapping s 0 → s.c.toNat = 11 → ∃ v env, (v = 0xFF ∨ v = 0x00) ∧ step s = .next (returned s v 0 0 v env)) ∧
  (∀ s : State, trapping s 0 → s.c.toNat = 8 →
    ∃ t, step s = .next t ∧ t.terminate = false ∧ ∀ x : Word, t.readByte x = if x = 0x0003 then s.e else s.readByte x) ∧
  (∀ (s : State) (x : Word), trapping s 0 → s.c.toNat = 9 → s.de ≤ x → s.readByte x = 0x24 →
    ∃ a b h l env, step s = .next (returned s a b h l env))

/-- SELDSK returns 0 and SECTRAN returns `BC`, in `HL`; the delay hook writes no memory and does not set `terminate` (R574). BDOS 27 and 31
return the addresses of the allocation vector and of the disk parameter block, in `HL` (R573; the model's fields for them, which the launch sets: log entry 2).
`A` and `B` are left open (R572, U7, log entry 10), after the delay hook `H` and `L` too. That no byte of memory changes is said by R574 of
the delay hook; of the others it is the model's reading of entries that state no store (log entry 9). -/
def Obligations.BiosWordResults : Prop :=
  ∀ s : State,
    (trapping s 10 → ∃ a b env, step s = .next (returned s a b 0 0 env)) ∧
    (trapping s 17 → ∃ a b env, step s = .next (returned s a b s.b s.c env)) ∧
    (trapping s 18 → ∃ a b h l env, step s = .next (returned s a b h l env)) ∧
    (trapping s 0 → s.c.toNat = 27 →
      ∃ a b env, step s = .next (returned s a b ((s.alvAddr >>> 8).setWidth 8) (s.alvAddr.setWidth 8) env)) ∧
    (trapping s 0 → s.c.toNat = 31 →
      ∃ a b env, step s = .next (returned s a b ((s.dpbAddr >>> 8).setWidth 8) (s.dpbAddr.setWidth 8) env))

/-- BDOS 0 and WBOOT end the run with `OK_TERM`, BOOT with `ERR_BOOT`, BDOS 9 with `ERR_BDOSARG` when no `$` stands from `DE` to the
end of memory; the trap's return is applied all the same, and no byte of memory changes (R563, R570, R573, R576). Only a signal that
arrives in the same cycle may write its own reason instead (R590). That no byte of memory changes is the model's reading of entries that
state no store (log entry 9), that the search for the `$` does not wrap its reading of "past memory end" (log entry 27). -/
def Obligations.TrapsThatEndTheRun : Prop :=
  ∀ (s : State) (offset : Nat) (reason : TermReason), trapping s offset →
    (offset = 0 ∧ s.c = 0 ∧ reason = .okTerm) ∨ (offset = 1 ∧ reason = .errBoot) ∨ (offset = 2 ∧ reason = .okTerm) ∨
      (offset = 0 ∧ s.c = 9 ∧ (∀ a : Word, s.de ≤ a → s.readByte a ≠ 0x24) ∧ reason = .errBdosArg) →
    ∃ a b h l env written,
      step s = .next { returned s a b h l env with terminate := true, termReason := written } ∧
      (written = reason ∨ written = .errSignal ∧ s.signal = some 1)

/-! ## Invariants and launch -/

/-- Every step keeps the invariant of a cycle boundary. -/
def Obligations.StepKeepsInv : Prop := ∀ s t : State, s.Inv → step s = .next t → t.Inv

/-- The launch state meets the invariant, and so does every launch state of a program. -/
def Obligations.LaunchMeetsInv : Prop :=
  State.reset.Inv ∧
    ∀ (any t : State) (y : Config.Layout) (l : Launch), any.mem.wf = true → launchState any y l = some t → t.Inv

/-- What launch leaves, as the spec gives it. With a program, under any layout (D19): `LaunchOfProgram`, every clause of R622 byte by
byte, and no launch state for an image that reaches past `TPA_END`. With none, `State.reset`: `PC`, the termination state, the bytes the source fixes, the serial number, and a word on
the stack from which control reaches the WBOOT trap (R52, R79, R80, R622, R623). Where the open addresses of D19 stand, the model's
values do (log entry 2). -/
def Obligations.LaunchState : Prop :=
  let s := State.reset
  LaunchOfProgram ∧
  s.pc = 0x0100 ∧ s.terminate = false ∧ s.termReason = .okNotRun ∧
  s.readByte 0 = 0xC3 ∧ s.readByte 3 = 0 ∧ s.readByte 5 = 0xC3 ∧ s.readWord 6 = Config.bdosStart ∧
  (s.readWord 1 = 0xFFEF ∨ s.readWord 1 = Config.biosVector + 3) ∧
  (∀ a : Word, 0xFFED ≤ a → s.readByte a = 0xC9) ∧
  (s.readByte Config.bdosStart = 0xC3 ∧ s.readWord (Config.bdosStart + 1) = 0xFFED) ∧
  (∀ k : Fin 18, s.readByte (Config.biosVector + BitVec.ofNat 16 (3 * k)) = 0xC3 ∧
    s.readWord (Config.biosVector + BitVec.ofNat 16 (3 * k + 1)) = BitVec.ofNat 16 (0xFFEE + k)) ∧
  ((List.range 6).map fun k => s.readByte (Config.serialNumber + BitVec.ofNat 16 k)) = [0x00, 0x16, 0x00, 0xC0, 0xFF, 0xEE] ∧
  (∃ k : Fin 3, ∃ t, Host.Core.run core k { s with pc := s.readWord s.sp } = .next t ∧ t.pc = 0xFFEF)

/-! ## Whole-machine rules -/

/-- No instruction raises anything: each has a next state from every state (R560), and none writes `terminate` or `term_reason`
(R48). -/
def Obligations.EveryInstructionCompletes : Prop :=
  ∀ (i : Instr) (s : State), ∃ t, exec i s = .next t ∧ t.terminate = s.terminate ∧ t.termReason = s.termReason ∧
    t.signal = s.signal ∧ t.env = s.env ∧ t.dma = s.dma ∧ t.dpbAddr = s.dpbAddr ∧
    t.alvAddr = s.alvAddr ∧ (i.isPrefix = false → t.plane = s.plane)

/-- A step never refuses, and it has no successor state only in the two stuck cases of the spec: a handler that waits for console input
(BDOS 1, BDOS 10, BIOS CONIN) and does not return, or a memory of nothing but `DD` and `FD` (R120, R560, R641, R651). That a terminated
state has a successor, itself, is the model's reading (log entry 13); which handlers wait for console input is its reading too (log entry
28); the stuck memory is the spec's decision D23 (log entry 25). -/
def Obligations.StepStopsOnlyWhereStuck : Prop :=
  ∀ s : State, (∃ t, step s = .next t) ∨
    (step s = .fault .handlerBlocked ∧ s.terminate = false ∧
      (s.pc = 0xFFED ∧ (s.c.toNat = 1 ∨ s.c.toNat = 10) ∨ s.pc = 0xFFF1)) ∨
    (step s = .fault .endlessPrefixes ∧ s.running ∧ ∀ a : Word, s.readByte a = 0xDD ∨ s.readByte a = 0xFD)

/-- `IFF` is written by `EI` and `DI` alone (R45), `I` by `LD I,A` alone (R42), `R` apart from the fetches by `LD R,A` alone (R43).
That `RETI` and `RETN` leave `IFF` is the spec's decision D8 (log entry 21). -/
def Obligations.ControlRegisterWriters : Prop :=
  ∀ (i : Instr) (s t : State), exec i s = .next t →
    (i ≠ .ei → i ≠ .di → t.iff = s.iff) ∧ (i ≠ .ldIA → t.i = s.i) ∧ (i ≠ .ldRA → t.r = s.r)

/-- No instruction touches the shadow set except by swapping: `EX AF,AF'` and `EXX` (R33). -/
def Obligations.ShadowSetOnlySwaps : Prop :=
  ∀ (i : Instr) (s t : State), exec i s = .next t →
    (i ≠ .exAfAf → t.a' = s.a' ∧ t.f' = s.f') ∧
    (i ≠ .exx → t.b' = s.b' ∧ t.c' = s.c' ∧ t.d' = s.d' ∧ t.e' = s.e' ∧ t.h' = s.h' ∧ t.l' = s.l')

/-- `SP` is written by the instructions R35 lists and by no other. -/
def Obligations.StackPointerWriters : Prop :=
  ∀ (i : Instr) (s t : State), exec i s = .next t → writesSp i = false → t.sp = s.sp

/-- Every indexed operand computation sets `LATCH` to its own `EA = u16(XY + sext8(d))`, and nothing else sets it (R47, R115). -/
def Obligations.LatchIsTheIndexedAddress : Prop :=
  ∀ (i : Instr) (s t : State), exec i s = .next t →
    t.latch =
      match indexedBy i with
      | some (xy, d) => BitVec.ofInt 16 ((s.index xy).toNat + d.toInt)
      | none => s.latch

/-- An instruction that stores nothing leaves every byte of memory. -/
def Obligations.OnlyStoringInstructionsChangeMemory : Prop :=
  ∀ (i : Instr) (s t : State), exec i s = .next t → storesMemory i = false → ∀ x : Word, t.readByte x = s.readByte x

/-- A load returns the latest store to that byte, at every address, and a store leaves every other byte (R71, R72, R82). -/
def Obligations.ReadAfterWrite : Prop :=
  ∀ (s : State) (a x : Word) (v w : Byte),
    (s.writeByte a v).readByte x = (if x = a then v else s.readByte x) ∧
    (s.mem.wf = true → (s.writeByte a v).mem.wf = true ∧ ((s.writeByte a w).writeByte a v).mem = (s.writeByte a v).mem)

/-! ## Loads -/

/-- `LD r,r'` and `LD r,n` (R151, R152), and which register each code names (R110). -/
def Obligations.LoadRegister : Prop :=
  ∀ (s : State) (r r' : Reg8) (n : Byte),
    (encode (.ldRR r r') = [op 0x40 (8 * r.code + r'.code)] ∧ Gives (.ldRR r r') s (s.setReg8 r (s.reg8 r'))) ∧
    (encode (.ldRN r n) = [op 0x06 (8 * r.code), n] ∧ Gives (.ldRN r n) s (s.setReg8 r n)) ∧
    (∀ q : Reg8, (s.setReg8 r n).reg8 q = if q = r then n else s.reg8 q) ∧
    (s.reg8 .b = s.b ∧ s.reg8 .c = s.c ∧ s.reg8 .d = s.d ∧ s.reg8 .e = s.e ∧ s.reg8 .h = s.h ∧ s.reg8 .l = s.l ∧ s.reg8 .a = s.a) ∧
    s.setReg8 r n =
      match r with
      | .b => { s with b := n }
      | .c => { s with c := n }
      | .d => { s with d := n }
      | .e => { s with e := n }
      | .h => { s with h := n }
      | .l => { s with l := n }
      | .a => { s with a := n }

/-- The 8-bit loads from memory (R153, R154, R159 to R161). -/
def Obligations.LoadRegisterFromMemory : Prop :=
  ∀ (s : State) (r : Reg8) (xy : Index) (d : Byte) (nn : Word),
    (encode (.ldRAtHl r) = [op 0x46 (8 * r.code)] ∧ Gives (.ldRAtHl r) s (s.setReg8 r (s.readByte s.hl))) ∧
    (encode (xy.pick (.ldRAtIx r d) (.ldRAtIy r d)) = [lead xy, op 0x46 (8 * r.code), d] ∧
      Gives (xy.pick (.ldRAtIx r d) (.ldRAtIy r d)) s { s.setReg8 r (s.readByte (s.ea xy d)) with latch := s.ea xy d }) ∧
    (encode .ldAAtBc = [0x0A] ∧ Gives .ldAAtBc s { s with a := s.readByte (word s.b s.c) }) ∧
    (encode .ldAAtDe = [0x1A] ∧ Gives .ldAAtDe s { s with a := s.readByte (word s.d s.e) }) ∧
    (encode (.ldAAtNn nn) = 0x3A :: imm16 nn ∧ Gives (.ldAAtNn nn) s { s with a := s.readByte nn })

/-- The 8-bit stores (R155 to R158, R162 to R164). -/
def Obligations.StoreByteForms : Prop :=
  ∀ (s : State) (r : Reg8) (xy : Index) (d n : Byte) (nn : Word),
    (encode (.ldAtHlR r) = [op 0x70 r.code] ∧ StoresByte (.ldAtHlR r) s s s.hl (s.reg8 r)) ∧
    (encode (xy.pick (.ldAtIxR d r) (.ldAtIyR d r)) = [lead xy, op 0x70 r.code, d] ∧
      StoresByte (xy.pick (.ldAtIxR d r) (.ldAtIyR d r)) s { s with latch := s.ea xy d } (s.ea xy d) (s.reg8 r)) ∧
    (encode (.ldAtHlN n) = [0x36, n] ∧ StoresByte (.ldAtHlN n) s s s.hl n) ∧
    (encode (xy.pick (.ldAtIxN d n) (.ldAtIyN d n)) = [lead xy, 0x36, d, n] ∧
      StoresByte (xy.pick (.ldAtIxN d n) (.ldAtIyN d n)) s { s with latch := s.ea xy d } (s.ea xy d) n) ∧
    (encode .ldAtBcA = [0x02] ∧ StoresByte .ldAtBcA s s (word s.b s.c) s.a) ∧
    (encode .ldAtDeA = [0x12] ∧ StoresByte .ldAtDeA s s (word s.d s.e) s.a) ∧
    (encode (.ldAtNnA nn) = 0x32 :: imm16 nn ∧ StoresByte (.ldAtNnA nn) s s nn s.a)

/-- `LD p,p'` with index halves, and the immediate loads of a half; the other half is unchanged (R165, R166). What a half is (R34) and
what each code of `LD p,p'` names (R116, R165) is written out. -/
def Obligations.LoadIndexHalf : Prop :=
  ∀ (s : State) (xy : Index) (p p' : IdxReg8) (h : Half) (n : Byte),
    (encode (.ldPP xy p p') = [lead xy, op 0x40 (8 * p.code + p'.code)] ∧
      Gives (.ldPP xy p p') s (s.setIdxReg8 xy p (s.idxReg8 xy p'))) ∧
    (encode (xy.pick (.ldIxhN h n) (.ldIyhN h n)) = [lead xy, (match h with
        | .hi => 0x26
        | .lo => 0x2E), n] ∧
      Gives (xy.pick (.ldIxhN h n) (.ldIyhN h n)) s
        (s.setIndex xy (match h with
          | .hi => word n ((s.index xy).setWidth 8)
          | .lo => word (s.index xy >>> 8 |>.setWidth 8) n))) ∧
    (s.index .ix = s.ix ∧ s.index .iy = s.iy ∧
      s.half xy .hi = (s.index xy >>> 8).setWidth 8 ∧ s.half xy .lo = (s.index xy).setWidth 8) ∧
    s.idxReg8 xy p =
      (match p with
      | .b => s.b
      | .c => s.c
      | .d => s.d
      | .e => s.e
      | .hi => (s.index xy >>> 8).setWidth 8
      | .lo => (s.index xy).setWidth 8
      | .a => s.a) ∧
    s.setIdxReg8 xy p n =
      (match p with
      | .b => { s with b := n }
      | .c => { s with c := n }
      | .d => { s with d := n }
      | .e => { s with e := n }
      | .hi => s.setIndex xy (word n ((s.index xy).setWidth 8))
      | .lo => s.setIndex xy (word ((s.index xy >>> 8).setWidth 8) n)
      | .a => { s with a := n }) ∧
    s.setHalf xy .hi n = s.setIndex xy (word n ((s.index xy).setWidth 8)) ∧
    s.setHalf xy .lo n = s.setIndex xy (word ((s.index xy >>> 8).setWidth 8) n)

/-- `LD I,A`, `LD R,A`, `LD A,I`, `LD A,R` with `fPV <- IFF` (R172 to R175), the spec's decision D9 (log entry 16). -/
def Obligations.InterruptAndRefreshLoads : Prop :=
  ∀ s : State,
    let flags (v : Byte) : Flags :=
      { s := v.getLsbD 7, z := decide (v = 0), y := v.getLsbD 5, x := v.getLsbD 3, h := false, n := false, pv := s.iff, c := s.f.c }
    (encode .ldIA = [0xED, 0x47] ∧ Gives .ldIA s { s with i := s.a }) ∧
    (encode .ldRA = [0xED, 0x4F] ∧ Gives .ldRA s { s with r := s.a }) ∧
    (encode .ldAI = [0xED, 0x57] ∧ Gives .ldAI s { s with a := s.i, f := flags s.i }) ∧
    (encode .ldAR = [0xED, 0x5F] ∧ Gives .ldAR s { s with a := s.r, f := flags s.r })

/-- The 16-bit immediate loads and the loads of `SP` from a register (R201, R202, R209, R210), and which registers each code names (R32,
R34, R111). -/
def Obligations.LoadPair : Prop :=
  ∀ (s : State) (dd : Pair) (xy : Index) (nn : Word),
    (encode (.ldDdNn dd nn) = op 0x01 (16 * dd.code) :: imm16 nn ∧ Gives (.ldDdNn dd nn) s (s.setPair dd nn)) ∧
    (encode (xy.pick (.ldIxNn nn) (.ldIyNn nn)) = lead xy :: 0x21 :: imm16 nn ∧
      Gives (xy.pick (.ldIxNn nn) (.ldIyNn nn)) s (s.setIndex xy nn)) ∧
    (encode .ldSpHl = [0xF9] ∧ Gives .ldSpHl s { s with sp := word s.h s.l }) ∧
    (encode (xy.pick .ldSpIx .ldSpIy) = [lead xy, 0xF9] ∧ Gives (xy.pick .ldSpIx .ldSpIy) s { s with sp := s.index xy }) ∧
    (s.setPair dd nn).pair dd = nn ∧ (s.setIndex xy nn).index xy = nn ∧ (∀ q : Pair, q ≠ dd → (s.setPair dd nn).pair q = s.pair q) ∧
    (s.pair .bc = word s.b s.c ∧ s.pair .de = word s.d s.e ∧ s.pair .hl = word s.h s.l ∧ s.pair .sp = s.sp ∧
      s.bc = word s.b s.c ∧ s.de = word s.d s.e ∧ s.hl = word s.h s.l) ∧
    (s.index .ix = s.ix ∧ s.index .iy = s.iy ∧ s.setIndex .ix nn = { s with ix := nn } ∧ s.setIndex .iy nn = { s with iy := nn }) ∧
    s.setPair dd nn =
      match dd with
      | .bc => { s with b := (nn >>> 8).setWidth 8, c := nn.setWidth 8 }
      | .de => { s with d := (nn >>> 8).setWidth 8, e := nn.setWidth 8 }
      | .hl => { s with h := (nn >>> 8).setWidth 8, l := nn.setWidth 8 }
      | .sp => { s with sp := nn }

/-- The 16-bit loads from memory, low byte at the lower address, the second address wrapping (R203 to R205). -/
def Obligations.LoadPairFromMemory : Prop :=
  ∀ (s : State) (dd : Pair) (xy : Index) (nn : Word),
    let w := word (s.readByte (nn + 1)) (s.readByte nn)
    (encode (.ldHlAtNn nn) = 0x2A :: imm16 nn ∧
      Gives (.ldHlAtNn nn) s { s with l := s.readByte nn, h := s.readByte (nn + 1) }) ∧
    (encode (.ldDdAtNn dd nn) = 0xED :: op 0x4B (16 * dd.code) :: imm16 nn ∧ Gives (.ldDdAtNn dd nn) s (s.setPair dd w)) ∧
    (encode (xy.pick (.ldIxAtNn nn) (.ldIyAtNn nn)) = lead xy :: 0x2A :: imm16 nn ∧
      Gives (xy.pick (.ldIxAtNn nn) (.ldIyAtNn nn)) s (s.setIndex xy w))

/-- The 16-bit stores (R206 to R208). -/
def Obligations.StoreWordForms : Prop :=
  ∀ (s : State) (dd : Pair) (xy : Index) (nn : Word),
    (encode (.ldAtNnHl nn) = 0x22 :: imm16 nn ∧ StoresWord (.ldAtNnHl nn) s s nn (word s.h s.l)) ∧
    (encode (.ldAtNnDd nn dd) = 0xED :: op 0x43 (16 * dd.code) :: imm16 nn ∧ StoresWord (.ldAtNnDd nn dd) s s nn (s.pair dd)) ∧
    (encode (xy.pick (.ldAtNnIx nn) (.ldAtNnIy nn)) = lead xy :: 0x22 :: imm16 nn ∧
      StoresWord (xy.pick (.ldAtNnIx nn) (.ldAtNnIy nn)) s s nn (s.index xy))

/-- `PUSH`: the high byte at `SP − 1`, the low byte at `SP − 2`, `SP <- u16(SP − 2)` (R211, R212). The order of the
flags in the pushed byte is the spec's decision D20 (log entry 24). -/
def Obligations.PushStoresBelowSp : Prop :=
  ∀ (s : State) (qq : StackPair) (xy : Index),
    (encode (.pushQq qq) = [op 0xC5 (16 * qq.code)] ∧
      StoresWord (.pushQq qq) s { s with sp := s.sp - 2 } (s.sp - 2)
        (match qq with
        | .bc => word s.b s.c
        | .de => word s.d s.e
        | .hl => word s.h s.l
        | .af => word s.a s.f.toByte)) ∧
    (encode (xy.pick .pushIx .pushIy) = [lead xy, 0xE5] ∧
      StoresWord (xy.pick .pushIx .pushIy) s { s with sp := s.sp - 2 } (s.sp - 2) (s.index xy)) ∧
    (∀ k : Fin 8, s.f.toByte.getLsbD k.val =
      [s.f.c, s.f.n, s.f.pv, s.f.x, s.f.h, s.f.y, s.f.z, s.f.s].getD k.val false)

/-- `POP`: `SP <- u16(SP + 2)`; `POP AF` loads all eight flags (R213, R214), in the order of the spec's
decision D20 (log entry 24). -/
def Obligations.PopLoadsFromSp : Prop :=
  ∀ (s : State) (qq : StackPair) (xy : Index),
    let lo := s.readByte s.sp
    let hi := s.readByte (s.sp + 1)
    (encode (.popQq qq) = [op 0xC1 (16 * qq.code)] ∧
      Gives (.popQq qq) s
        (match qq with
        | .bc => { s with b := hi, c := lo, sp := s.sp + 2 }
        | .de => { s with d := hi, e := lo, sp := s.sp + 2 }
        | .hl => { s with h := hi, l := lo, sp := s.sp + 2 }
        | .af =>
          { s with
            a := hi, sp := s.sp + 2,
            f :=
              { s := lo.getLsbD 7, z := lo.getLsbD 6, y := lo.getLsbD 5, h := lo.getLsbD 4, x := lo.getLsbD 3, pv := lo.getLsbD 2,
                n := lo.getLsbD 1, c := lo.getLsbD 0 } })) ∧
    (encode (xy.pick .popIx .popIy) = [lead xy, 0xE1] ∧
      Gives (xy.pick .popIx .popIy) s { s.setIndex xy (word hi lo) with sp := s.sp + 2 })

/-! ## Exchanges and block instructions -/

/-- The exchanges (R241 to R245): `EX (SP),HL` reads both bytes before it writes them, `SP` unchanged. -/
def Obligations.Exchanges : Prop :=
  ∀ (s : State) (xy : Index),
    let t := word (s.readByte (s.sp + 1)) (s.readByte s.sp)
    (encode .exDeHl = [0xEB] ∧ Gives .exDeHl s { s with d := s.h, e := s.l, h := s.d, l := s.e }) ∧
    (encode .exAfAf = [0x08] ∧ Gives .exAfAf s { s with a := s.a', f := s.f', a' := s.a, f' := s.f }) ∧
    (encode .exx = [0xD9] ∧
      Gives .exx s
        { s with
          b := s.b', c := s.c', d := s.d', e := s.e', h := s.h', l := s.l',
          b' := s.b, c' := s.c, d' := s.d, e' := s.e, h' := s.h, l' := s.l }) ∧
    (encode .exAtSpHl = [0xE3] ∧
      StoresWord .exAtSpHl s { s with h := s.readByte (s.sp + 1), l := s.readByte s.sp } s.sp (word s.h s.l)) ∧
    (encode (xy.pick .exAtSpIx .exAtSpIy) = [lead xy, 0xE3] ∧
      StoresWord (xy.pick .exAtSpIx .exAtSpIy) s (s.setIndex xy t) s.sp (s.index xy))

/-- `LDI`, `LDD`, `LDIR`, `LDDR`: one iteration a cycle; the repeating forms go back to their `ED` byte while `BC ≠ 0` (R250 to R253,
R260). That an iteration which repeats leaves the single-step flags is the reading of log entry 19 (U9). -/
def Obligations.BlockTransfer : Prop :=
  ∀ (s : State) (up rep : Bool),
    let i : Instr := if rep then (if up then .ldir else .lddr) else (if up then .ldi else .ldd)
    let bc := s.bc - 1
    encode i = [0xED, (if rep then 0xB0 else 0xA0) + (if up then 0 else 8)] ∧
    StoresByte i s
      { (((s.setPair .hl (moved up s.hl)).setPair .de (moved up s.de)).setPair .bc bc) with
        f := loadFlags s, pc := repeatPc (rep && decide (bc ≠ 0)) s }
      s.de (s.readByte s.hl)

/-- `CPI`, `CPD`, `CPIR`, `CPDR`: `A` is unchanged; the repeating forms go back while `BC ≠ 0` and `A` differs (R254 to R257, R260).
That an iteration which repeats leaves the single-step flags is the reading of log entry 19 (U9). -/
def Obligations.BlockSearch : Prop :=
  ∀ (s : State) (up rep : Bool),
    let i : Instr := if rep then (if up then .cpir else .cpdr) else (if up then .cpi else .cpd)
    let bc := s.bc - 1
    encode i = [0xED, (if rep then 0xB1 else 0xA1) + (if up then 0 else 8)] ∧
    Gives i s
      { (s.setPair .hl (moved up s.hl)).setPair .bc bc with
        f := compareFlags s, pc := repeatPc (rep && decide (bc ≠ 0 ∧ s.a ≠ s.readByte s.hl)) s }

/-! ## 8-bit arithmetic and logic -/

/-- `ADD A,s` and `ADC A,s` in every form (R282, R285 to R287). -/
def Obligations.AddForms : Prop :=
  AluForms 0 .addAR .addAAtHl .addAN (fun xy h => xy.pick (.addAIxh h) (.addAIyh h)) (fun xy d => xy.pick (.addAAtIx d) (.addAAtIy d)) ∧
  AluForms 1 .adcAR .adcAAtHl .adcAN (fun xy h => xy.pick (.adcAIxh h) (.adcAIyh h)) (fun xy d => xy.pick (.adcAAtIx d) (.adcAAtIy d))

/-- `SUB s` and `SBC A,s` in every form (R283, R285, R288, R289). -/
def Obligations.SubtractForms : Prop :=
  AluForms 2 .subR .subAtHl .subN (fun xy h => xy.pick (.subIxh h) (.subIyh h)) (fun xy d => xy.pick (.subAtIx d) (.subAtIy d)) ∧
  AluForms 3 .sbcAR .sbcAAtHl .sbcAN (fun xy h => xy.pick (.sbcAIxh h) (.sbcAIyh h)) (fun xy d => xy.pick (.sbcAAtIx d) (.sbcAAtIy d))

/-- `CP s` in every form: `A` is unchanged, the flags are those of the difference (R283, R285, R293). That `fY` and `fX` come from the
operand is the spec's decision D10 (log entry 18). -/
def Obligations.CompareForms : Prop :=
  AluForms 7 .cpR .cpAtHl .cpN (fun xy h => xy.pick (.cpIxh h) (.cpIyh h)) (fun xy d => xy.pick (.cpAtIx d) (.cpAtIy d))

/-- `AND s`, `XOR s` and `OR s` in every form (R284, R285, R290 to R292). -/
def Obligations.LogicForms : Prop :=
  AluForms 4 .andR .andAtHl .andN (fun xy h => xy.pick (.andIxh h) (.andIyh h)) (fun xy d => xy.pick (.andAtIx d) (.andAtIy d)) ∧
  AluForms 5 .xorR .xorAtHl .xorN (fun xy h => xy.pick (.xorIxh h) (.xorIyh h)) (fun xy d => xy.pick (.xorAtIx d) (.xorAtIy d)) ∧
  AluForms 6 .orR .orAtHl .orN (fun xy h => xy.pick (.orIxh h) (.orIyh h)) (fun xy d => xy.pick (.orAtIx d) (.orAtIy d))

/-- `INC m` and `DEC m` in every form (R300 to R302). -/
def Obligations.IncrementAndDecrementForms : Prop :=
  StepForms 0 (fun v => BitVec.ofNat 8 (v.toNat + 1)) incFlags .incR .incAtHl (fun xy h => xy.pick (.incIxh h) (.incIyh h))
    (fun xy d => xy.pick (.incAtIx d) (.incAtIy d)) ∧
  StepForms 1 (fun v => BitVec.ofNat 8 (v.toNat + 255)) decFlags .decR .decAtHl (fun xy h => xy.pick (.decIxh h) (.decIyh h))
    (fun xy d => xy.pick (.decAtIx d) (.decAtIy d))

/-! ## General purpose -/

/-- `DAA` by the rule's algorithm, with the rule's own `h = a[4] ^ r[4]` (R331). -/
def Obligations.DecimalAdjust : Prop :=
  ∀ s : State,
    let a := s.a.toNat
    let low := s.f.h || decide (a % 16 > 9)
    let high := s.f.c || decide (a > 0x99)
    let corr := (if low then 6 else 0) + (if high then 0x60 else 0)
    let r : Byte := BitVec.ofNat 8 (if s.f.n then a + 256 - corr else a + corr)
    encode .daa = [0x27] ∧
    Gives .daa s
      { s with
        a := r,
        f :=
          { s := r.getLsbD 7, z := decide (r = 0), y := r.getLsbD 5, x := r.getLsbD 3, pv := even r,
            h := decide (s.a.getLsbD 4 ≠ r.getLsbD 4), c := high, n := s.f.n } }

/-- `DAA` after `ADC` of two packed BCD bytes is their decimal sum: two digits and the carry (R331's purpose). -/
def Obligations.DecimalAdjustAfterAddition : Prop :=
  ∀ (s : State) (n : Byte), s.a.toNat % 16 ≤ 9 → s.a.toNat / 16 ≤ 9 → n.toNat % 16 ≤ 9 → n.toNat / 16 ≤ 9 →
    ∃ t u, exec (.adcAN n) s = .next t ∧ exec .daa t = .next u ∧
      u.a.toNat % 16 ≤ 9 ∧ u.a.toNat / 16 ≤ 9 ∧
      100 * u.f.c.toNat + 10 * (u.a.toNat / 16) + u.a.toNat % 16 =
        10 * (s.a.toNat / 16) + s.a.toNat % 16 + (10 * (n.toNat / 16) + n.toNat % 16) + s.f.c.toNat

/-- `CPL`, `NEG`, `CCF`, `SCF` (R332 to R335). That `CCF` and `SCF` take `fY` and `fX` from `A` is the spec's decision D12 (log entry
17), the mirrors of `NEG` are its decision D4 (log entry 20). -/
def Obligations.ComplementNegateCarry : Prop :=
  ∀ (s : State) (y : Fin 8),
    let na : Byte := BitVec.ofNat 8 (255 - s.a.toNat)
    (encode .cpl = [0x2F] ∧
      Gives .cpl s { s with a := na, f := { s.f with h := true, n := true, y := na.getLsbD 5, x := na.getLsbD 3 } }) ∧
    (encode (.neg y) = [0xED, op 0x44 (8 * y)] ∧
      Gives (.neg y) s { s with a := (sub8 0 s.a false).1, f := (sub8 0 s.a false).2 }) ∧
    ((sub8 0 s.a false).2.c = decide (s.a ≠ 0) ∧ (sub8 0 s.a false).2.pv = decide (s.a = 0x80)) ∧
    (encode .ccf = [0x3F] ∧
      Gives .ccf s { s with f := { s.f with h := s.f.c, c := !s.f.c, n := false, y := s.a.getLsbD 5, x := s.a.getLsbD 3 } }) ∧
    (encode .scf = [0x37] ∧
      Gives .scf s { s with f := { s.f with c := true, h := false, n := false, y := s.a.getLsbD 5, x := s.a.getLsbD 3 } })

/-- `NOP`, the `ED` no-operations and `IM` do nothing beyond the fetch; `DI` and `EI` write `IFF` alone, at once (R336, R337, R339 to
R341). As a step from memory: `PC`, `R` and nothing else but `IFF`. The `ED` no-operations are the spec's decision D4 (log entry 20), the
absent mode register and `EI` at once its decisions D7 and D24 (log entry 21), the counts of `R` its decisions D2 and D3 (log entry
15). -/
def Obligations.NoOperationsAndInterruptEnable : Prop :=
  (∀ (s : State) (o : Byte) (y : Fin 8),
    (encode .nop = [0x00] ∧ Gives .nop s s) ∧ (encode (.nopEd o) = [0xED, o] ∧ Gives (.nopEd o) s s) ∧
    (encode (.im0 y) = [0xED, op 0x46 (8 * y)] ∧ Gives (.im0 y) s s) ∧
    (encode (.im1 y) = [0xED, op 0x46 (8 * y)] ∧ Gives (.im1 y) s s) ∧
    (encode (.im2 y) = [0xED, op 0x46 (8 * y)] ∧ Gives (.im2 y) s s) ∧
    (encode .di = [0xF3] ∧ Gives .di s { s with iff := false }) ∧ (encode .ei = [0xFB] ∧ Gives .ei s { s with iff := true })) ∧
  (∀ s : State, s.running → s.plane = .base →
    let after1 : State := { s.tick with pc := s.pc + 1, r := incR s.r }
    let after2 : State := { s.tick with pc := s.pc + 2, r := incR (incR s.r) }
    (s.readByte s.pc = 0x00 → step s = .next after1) ∧
    (s.readByte s.pc = 0xED → edUnassigned (s.readByte (s.pc + 1)) = true → step s = .next after2) ∧
    (s.readByte s.pc = 0xED → s.readByte (s.pc + 1) &&& 0xC7 = 0x46 → step s = .next after2) ∧
    (s.readByte s.pc = 0xF3 → step s = .next { after1 with iff := false }) ∧
    (s.readByte s.pc = 0xFB → step s = .next { after1 with iff := true }))

/-- `HALT` runs, sets no `terminate`, and changes only `PC`, as the open `HALT_MODE` says (R338, D1: log entry 3;
the statement holds for both modes). -/
def Obligations.HaltGoesOn : Prop :=
  ∀ s : State,
    encode .halt = [0x76] ∧
    Gives .halt s
      { s with
        pc := match Config.haltMode with
          | .spin => BitVec.ofNat 16 (s.pc.toNat + 65535)
          | .nop => s.pc }

/-! ## 16-bit arithmetic -/

/-- `ADD HL,ss`, `ADD IX,pp`, `ADD IY,rr` (R361, R362). -/
def Obligations.AddPair : Prop :=
  ∀ (s : State) (ss : Pair) (pp : IdxPair) (xy : Index),
    let v := match pp with
      | .bc => word s.b s.c
      | .de => word s.d s.e
      | .xy => s.index xy
      | .sp => s.sp
    (encode (.addHlSs ss) = [op 0x09 (16 * ss.code)] ∧
      Gives (.addHlSs ss) s { s.setPair .hl (add16 s.f s.hl (s.pair ss)).1 with f := (add16 s.f s.hl (s.pair ss)).2 }) ∧
    (encode (xy.pick (.addIxPp pp) (.addIyPp pp)) = [lead xy, op 0x09 (16 * pp.code)] ∧
      Gives (xy.pick (.addIxPp pp) (.addIyPp pp)) s
        { s.setIndex xy (add16 s.f (s.index xy) v).1 with f := (add16 s.f (s.index xy) v).2 })

/-- `ADC HL,ss` and `SBC HL,ss` (R363, R364). -/
def Obligations.AddAndSubtractPairWithCarry : Prop :=
  ∀ (s : State) (ss : Pair),
    (encode (.adcHlSs ss) = [0xED, op 0x4A (16 * ss.code)] ∧
      Gives (.adcHlSs ss) s { s.setPair .hl (adc16 s.hl (s.pair ss) s.f.c).1 with f := (adc16 s.hl (s.pair ss) s.f.c).2 }) ∧
    (encode (.sbcHlSs ss) = [0xED, op 0x42 (16 * ss.code)] ∧
      Gives (.sbcHlSs ss) s { s.setPair .hl (sbc16 s.hl (s.pair ss) s.f.c).1 with f := (sbc16 s.hl (s.pair ss) s.f.c).2 })

/-- `INC` and `DEC` of a pair or an index register, modulo 65 536, no flag at all (R365 to R368). -/
def Obligations.CountPairs : Prop :=
  ∀ (s : State) (ss : Pair) (xy : Index),
    let up (w : Word) : Word := BitVec.ofNat 16 (w.toNat + 1)
    let down (w : Word) : Word := BitVec.ofNat 16 (w.toNat + 65535)
    (encode (.incSs ss) = [op 0x03 (16 * ss.code)] ∧ Gives (.incSs ss) s (s.setPair ss (up (s.pair ss)))) ∧
    (encode (xy.pick .incIx .incIy) = [lead xy, 0x23] ∧ Gives (xy.pick .incIx .incIy) s (s.setIndex xy (up (s.index xy)))) ∧
    (encode (.decSs ss) = [op 0x0B (16 * ss.code)] ∧ Gives (.decSs ss) s (s.setPair ss (down (s.pair ss)))) ∧
    (encode (xy.pick .decIx .decIy) = [lead xy, 0x2B] ∧ Gives (xy.pick .decIx .decIy) s (s.setIndex xy (down (s.index xy))))

/-! ## Rotates, shifts, bits -/

/-- `RLCA`, `RRCA`, `RLA`, `RRA`: `fS fZ fPV` unchanged (R391 to R394). -/
def Obligations.AccumulatorRotates : Prop :=
  ∀ (s : State) (y : Fin 4),
    let i : Instr := match y with
      | 0 => .rlca
      | 1 => .rrca
      | 2 => .rla
      | 3 => .rra
    let r := rotResult (y.castLE (by decide)) s.a s.f.c
    encode i = [op 0x07 (8 * y)] ∧
    Gives i s { s with a := r.1, f := { s.f with c := r.2, h := false, n := false, y := r.1.getLsbD 5, x := r.1.getLsbD 3 } }

/-- The eight CB rotates and shifts in every form (R400 to R408). The copy forms and `SLL` are the spec's decisions D6 and D4 (log entry
20). -/
def Obligations.RotateAndShiftForms : Prop :=
  RotForms 0 .rlcR .rlcAtHl (fun xy d => xy.pick (.rlcAtIx d) (.rlcAtIy d)) (fun xy d r => xy.pick (.rlcAtIxR d r) (.rlcAtIyR d r)) ∧
  RotForms 1 .rrcR .rrcAtHl (fun xy d => xy.pick (.rrcAtIx d) (.rrcAtIy d)) (fun xy d r => xy.pick (.rrcAtIxR d r) (.rrcAtIyR d r)) ∧
  RotForms 2 .rlR .rlAtHl (fun xy d => xy.pick (.rlAtIx d) (.rlAtIy d)) (fun xy d r => xy.pick (.rlAtIxR d r) (.rlAtIyR d r)) ∧
  RotForms 3 .rrR .rrAtHl (fun xy d => xy.pick (.rrAtIx d) (.rrAtIy d)) (fun xy d r => xy.pick (.rrAtIxR d r) (.rrAtIyR d r)) ∧
  RotForms 4 .slaR .slaAtHl (fun xy d => xy.pick (.slaAtIx d) (.slaAtIy d)) (fun xy d r => xy.pick (.slaAtIxR d r) (.slaAtIyR d r)) ∧
  RotForms 5 .sraR .sraAtHl (fun xy d => xy.pick (.sraAtIx d) (.sraAtIy d)) (fun xy d r => xy.pick (.sraAtIxR d r) (.sraAtIyR d r)) ∧
  RotForms 6 .sllR .sllAtHl (fun xy d => xy.pick (.sllAtIx d) (.sllAtIy d)) (fun xy d r => xy.pick (.sllAtIxR d r) (.sllAtIyR d r)) ∧
  RotForms 7 .srlR .srlAtHl (fun xy d => xy.pick (.srlAtIx d) (.srlAtIy d)) (fun xy d r => xy.pick (.srlAtIxR d r) (.srlAtIyR d r))

/-- `RLD` and `RRD`: the low digit of `A` and the two digits at `(HL)` rotate (R410, R411). -/
def Obligations.DigitRotates : Prop :=
  ∀ s : State,
    let t := (s.readByte s.hl).toNat
    let a := s.a.toNat
    let flags (r : Byte) : Flags :=
      { s := r.getLsbD 7, z := decide (r = 0), y := r.getLsbD 5, x := r.getLsbD 3, pv := even r, h := false, n := false, c := s.f.c }
    let left : Byte := BitVec.ofNat 8 (a / 16 * 16 + t / 16)
    let right : Byte := BitVec.ofNat 8 (a / 16 * 16 + t % 16)
    (encode .rld = [0xED, 0x6F] ∧
      StoresByte .rld s { s with a := left, f := flags left } s.hl (BitVec.ofNat 8 (t % 16 * 16 + a % 16))) ∧
    (encode .rrd = [0xED, 0x67] ∧
      StoresByte .rrd s { s with a := right, f := flags right } s.hl (BitVec.ofNat 8 (a % 16 * 16 + t / 16)))

/-- `BIT b,r`, `BIT b,(HL)` and `BIT b,(IX+d)`, whose `fY` and `fX` are bits 13 and 11 of the effective address (R441, R445 to R447).
`fY` and `fX` of the first two forms are the spec's decision D11 (log entry 11), the duplicates `z ≠ 6` its decision D6 (log entry
20). -/
def Obligations.BitTests : Prop :=
  ∀ (s : State) (b z : Fin 8) (r : Reg8) (xy : Index) (d : Byte),
    (encode (.bitBR b r) = [0xCB, op 0x40 (8 * b + r.code)] ∧
      Gives (.bitBR b r) s { s with f := bitFlags s.f (s.reg8 r) b ((s.reg8 r).getLsbD 5) ((s.reg8 r).getLsbD 3) }) ∧
    (encode (.bitBAtHl b) = [0xCB, op 0x46 (8 * b)] ∧
      Gives (.bitBAtHl b) s
        { s with f := bitFlags s.f (s.readByte s.hl) b ((s.readByte s.hl).getLsbD 5) ((s.readByte s.hl).getLsbD 3) }) ∧
    (encode (xy.pick (.bitBAtIx b d z) (.bitBAtIy b d z)) = [lead xy, 0xCB, d, op 0x40 (8 * b + z)] ∧
      Gives (xy.pick (.bitBAtIx b d z) (.bitBAtIy b d z)) s
        { s with
          f := bitFlags s.f (s.readByte (s.ea xy d)) b ((s.ea xy d).getLsbD 13) ((s.ea xy d).getLsbD 11),
          latch := s.ea xy d })

/-- `SET b,m` and `RES b,m` in every form; no flag (R450 to R452). The copy forms are the spec's decision D6 (log entry 20). -/
def Obligations.SetAndResetForms : Prop :=
  BitForms 3 (putBit true) .setBR .setBAtHl (fun xy b d => xy.pick (.setBAtIx b d) (.setBAtIy b d))
    (fun xy b d r => xy.pick (.setBAtIxR b d r) (.setBAtIyR b d r)) ∧
  BitForms 2 (putBit false) .resBR .resBAtHl (fun xy b d => xy.pick (.resBAtIx b d) (.resBAtIy b d))
    (fun xy b d r => xy.pick (.resBAtIxR b d r) (.resBAtIyR b d r))

/-! ## Jumps, calls, returns -/

/-- The jumps (R471 to R477); `s.pc` is `PCn`. -/
def Obligations.Jumps : Prop :=
  ∀ (s : State) (cc : Cond) (jc : JrCond) (xy : Index) (nn : Word) (e : Byte),
    let target : Word := BitVec.ofInt 16 (s.pc.toNat + e.toInt)
    let b : Byte := BitVec.ofNat 8 (s.b.toNat + 255)
    (encode (.jpNn nn) = 0xC3 :: imm16 nn ∧ Gives (.jpNn nn) s { s with pc := nn }) ∧
    (encode (.jpCcNn cc nn) = op 0xC2 (8 * cc.code) :: imm16 nn ∧
      (condHolds cc s.f → Gives (.jpCcNn cc nn) s { s with pc := nn }) ∧ (¬condHolds cc s.f → Gives (.jpCcNn cc nn) s s)) ∧
    (encode (.jrE e) = [0x18, e] ∧ Gives (.jrE e) s { s with pc := target }) ∧
    (encode (.jrCcE jc e) = [op 0x20 (8 * jc.code), e] ∧
      (condHolds (jrCond jc) s.f → Gives (.jrCcE jc e) s { s with pc := target }) ∧
      (¬condHolds (jrCond jc) s.f → Gives (.jrCcE jc e) s s)) ∧
    (encode .jpAtHl = [0xE9] ∧ Gives .jpAtHl s { s with pc := word s.h s.l }) ∧
    (encode (xy.pick .jpAtIx .jpAtIy) = [lead xy, 0xE9] ∧ Gives (xy.pick .jpAtIx .jpAtIy) s { s with pc := s.index xy }) ∧
    (encode (.djnzE e) = [0x10, e] ∧ Gives (.djnzE e) s { s with b := b, pc := if s.b = 1 then s.pc else target })

/-- `CALL nn`, `CALL cc,nn`, `RST p`: `PCn` is pushed (R480, R481, R486). -/
def Obligations.CallsAndRestarts : Prop :=
  ∀ (s : State) (cc : Cond) (nn : Word) (p : Fin 8),
    (encode (.callNn nn) = 0xCD :: imm16 nn ∧
      StoresWord (.callNn nn) s { s with sp := s.sp - 2, pc := nn } (s.sp - 2) s.pc) ∧
    (encode (.callCcNn cc nn) = op 0xC4 (8 * cc.code) :: imm16 nn ∧
      (condHolds cc s.f → StoresWord (.callCcNn cc nn) s { s with sp := s.sp - 2, pc := nn } (s.sp - 2) s.pc) ∧
      (¬condHolds cc s.f → Gives (.callCcNn cc nn) s s)) ∧
    (encode (.rstP p) = [op 0xC7 (8 * p)] ∧
      StoresWord (.rstP p) s { s with sp := s.sp - 2, pc := BitVec.ofNat 16 (8 * p) } (s.sp - 2) s.pc)

/-- `RET`, `RET cc`, `RETI` and `RETN` with its mirrors: `PC` from the stack, `IFF` unchanged (R482 to R485). That `RETI` and
`RETN` are `RET` is the spec's decision D8 (log entry 21), the mirrors its decision D4 (log entry 20). -/
def Obligations.Returns : Prop :=
  ∀ (s : State) (cc : Cond) (y : Fin 8),
    let after : State := { s with pc := word (s.readByte (s.sp + 1)) (s.readByte s.sp), sp := s.sp + 2 }
    (encode .ret = [0xC9] ∧ Gives .ret s after) ∧
    (encode (.retCc cc) = [op 0xC0 (8 * cc.code)] ∧
      (condHolds cc s.f → Gives (.retCc cc) s after) ∧ (¬condHolds cc s.f → Gives (.retCc cc) s s)) ∧
    (encode .reti = [0xED, 0x4D] ∧ Gives .reti s after) ∧
    (encode (.retn y) = [0xED, op 0x45 (8 * y)] ∧ Gives (.retn y) s after)

/-! ## Input and output -/

/-- The single port instructions: a port reads 0 and a write is dropped (R521 to R526). That `IN A,(n)` changes no flag is
the spec's decision D14 (log entry 22), `IN (C)` and `OUT (C),0` its decision D4 (log entry 20). -/
def Obligations.PortInstructions : Prop :=
  ∀ (s : State) (r : Reg8) (n : Byte),
    (encode (.inAAtN n) = [0xDB, n] ∧ Gives (.inAAtN n) s { s with a := 0 }) ∧
    (encode (.inRAtC r) = [0xED, op 0x40 (8 * r.code)] ∧ Gives (.inRAtC r) s { s.setReg8 r 0 with f := inFlags s.f }) ∧
    (encode .inAtC = [0xED, 0x70] ∧ Gives .inAtC s { s with f := inFlags s.f }) ∧
    (encode (.outAtNA n) = [0xD3, n] ∧ Gives (.outAtNA n) s s) ∧
    (encode (.outAtCR r) = [0xED, op 0x41 (8 * r.code)] ∧ Gives (.outAtCR r) s s) ∧
    (encode .outAtC0 = [0xED, 0x71] ∧ Gives .outAtC0 s s)

/-- `INI`, `IND`, `INIR`, `INDR`: 0 goes to `(HL)` (R530 to R534, R260). The flags `fH fPV fN fC` are the spec's decision D13,
which its U6 marks as a parameter (log entry 12). That an iteration of `INIR` or `INDR` which repeats leaves the single-step flags, `fY` and
`fX` among them, is the reading of log entry 19 (U9). -/
def Obligations.BlockInput : Prop :=
  ∀ (s : State) (up rep : Bool),
    let i : Instr := if rep then (if up then .inir else .indr) else (if up then .ini else .ind)
    let b : Byte := BitVec.ofNat 8 (s.b.toNat + 255)
    let k := (s.c.toNat + (if up then 1 else 255)) % 256
    encode i = [0xED, (if rep then 0xB2 else 0xA2) + (if up then 0 else 8)] ∧
    StoresByte i s
      { s.setPair .hl (moved up s.hl) with b := b, f := blockIoFlags b 0 k, pc := repeatPc (rep && decide (b ≠ 0)) s } s.hl 0

/-- `OUTI`, `OUTD`, `OTIR`, `OTDR`: the byte at `(HL)` is read and discarded; memory is unchanged (R530, R535 to R538,
R260). The flags `fH fPV fN fC` are the spec's decision D13, which its U6 marks as a parameter (log entry 12). That an iteration of `OTIR`
or `OTDR` which repeats leaves the single-step flags, `fY` and `fX` among them, is the reading of log entry 19 (U9). -/
def Obligations.BlockOutput : Prop :=
  ∀ (s : State) (up rep : Bool),
    let i : Instr := if rep then (if up then .otir else .otdr) else (if up then .outi else .outd)
    let b : Byte := BitVec.ofNat 8 (s.b.toNat + 255)
    let t := s.readByte s.hl
    let k := t.toNat + (moved up s.hl).toNat % 256
    encode i = [0xED, (if rep then 0xB3 else 0xA3) + (if up then 0 else 8)] ∧
    Gives i s
      { s.setPair .hl (moved up s.hl) with b := b, f := blockIoFlags b t k, pc := repeatPc (rep && decide (b ≠ 0)) s }
end

