-- ==== Sys2Proof/Laws/State.lean ====
section
/-! SUPPORT. One lemma per field of State and update: what the update leaves in the field. No later proof needs to unfold a record
update. -/

namespace Sys2Proof.Machine

/-! ### `setA` -/

@[simp] theorem State.setA_a (s : State) (v : Byte) : (s.setA v).a = v := rfl
@[simp] theorem State.setA_f (s : State) (v : Byte) : (s.setA v).f = s.f := rfl
@[simp] theorem State.setA_b (s : State) (v : Byte) : (s.setA v).b = s.b := rfl
@[simp] theorem State.setA_c (s : State) (v : Byte) : (s.setA v).c = s.c := rfl
@[simp] theorem State.setA_d (s : State) (v : Byte) : (s.setA v).d = s.d := rfl
@[simp] theorem State.setA_e (s : State) (v : Byte) : (s.setA v).e = s.e := rfl
@[simp] theorem State.setA_h (s : State) (v : Byte) : (s.setA v).h = s.h := rfl
@[simp] theorem State.setA_l (s : State) (v : Byte) : (s.setA v).l = s.l := rfl
@[simp] theorem State.setA_a' (s : State) (v : Byte) : (s.setA v).a' = s.a' := rfl
@[simp] theorem State.setA_f' (s : State) (v : Byte) : (s.setA v).f' = s.f' := rfl
@[simp] theorem State.setA_b' (s : State) (v : Byte) : (s.setA v).b' = s.b' := rfl
@[simp] theorem State.setA_c' (s : State) (v : Byte) : (s.setA v).c' = s.c' := rfl
@[simp] theorem State.setA_d' (s : State) (v : Byte) : (s.setA v).d' = s.d' := rfl
@[simp] theorem State.setA_e' (s : State) (v : Byte) : (s.setA v).e' = s.e' := rfl
@[simp] theorem State.setA_h' (s : State) (v : Byte) : (s.setA v).h' = s.h' := rfl
@[simp] theorem State.setA_l' (s : State) (v : Byte) : (s.setA v).l' = s.l' := rfl
@[simp] theorem State.setA_ix (s : State) (v : Byte) : (s.setA v).ix = s.ix := rfl
@[simp] theorem State.setA_iy (s : State) (v : Byte) : (s.setA v).iy = s.iy := rfl
@[simp] theorem State.setA_sp (s : State) (v : Byte) : (s.setA v).sp = s.sp := rfl
@[simp] theorem State.setA_pc (s : State) (v : Byte) : (s.setA v).pc = s.pc := rfl
@[simp] theorem State.setA_i (s : State) (v : Byte) : (s.setA v).i = s.i := rfl
@[simp] theorem State.setA_r (s : State) (v : Byte) : (s.setA v).r = s.r := rfl
@[simp] theorem State.setA_iff (s : State) (v : Byte) : (s.setA v).iff = s.iff := rfl
@[simp] theorem State.setA_latch (s : State) (v : Byte) : (s.setA v).latch = s.latch := rfl
@[simp] theorem State.setA_terminate (s : State) (v : Byte) : (s.setA v).terminate = s.terminate := rfl
@[simp] theorem State.setA_termReason (s : State) (v : Byte) : (s.setA v).termReason = s.termReason := rfl
@[simp] theorem State.setA_mem (s : State) (v : Byte) : (s.setA v).mem = s.mem := rfl
@[simp] theorem State.setA_plane (s : State) (v : Byte) : (s.setA v).plane = s.plane := rfl
@[simp] theorem State.setA_signal (s : State) (v : Byte) : (s.setA v).signal = s.signal := rfl
@[simp] theorem State.setA_env (s : State) (v : Byte) : (s.setA v).env = s.env := rfl
@[simp] theorem State.setA_dma (s : State) (v : Byte) : (s.setA v).dma = s.dma := rfl
@[simp] theorem State.setA_dpbAddr (s : State) (v : Byte) : (s.setA v).dpbAddr = s.dpbAddr := rfl
@[simp] theorem State.setA_alvAddr (s : State) (v : Byte) : (s.setA v).alvAddr = s.alvAddr := rfl

/-! ### `setF` -/

@[simp] theorem State.setF_a (s : State) (v : Flags) : (s.setF v).a = s.a := rfl
@[simp] theorem State.setF_f (s : State) (v : Flags) : (s.setF v).f = v := rfl
@[simp] theorem State.setF_b (s : State) (v : Flags) : (s.setF v).b = s.b := rfl
@[simp] theorem State.setF_c (s : State) (v : Flags) : (s.setF v).c = s.c := rfl
@[simp] theorem State.setF_d (s : State) (v : Flags) : (s.setF v).d = s.d := rfl
@[simp] theorem State.setF_e (s : State) (v : Flags) : (s.setF v).e = s.e := rfl
@[simp] theorem State.setF_h (s : State) (v : Flags) : (s.setF v).h = s.h := rfl
@[simp] theorem State.setF_l (s : State) (v : Flags) : (s.setF v).l = s.l := rfl
@[simp] theorem State.setF_a' (s : State) (v : Flags) : (s.setF v).a' = s.a' := rfl
@[simp] theorem State.setF_f' (s : State) (v : Flags) : (s.setF v).f' = s.f' := rfl
@[simp] theorem State.setF_b' (s : State) (v : Flags) : (s.setF v).b' = s.b' := rfl
@[simp] theorem State.setF_c' (s : State) (v : Flags) : (s.setF v).c' = s.c' := rfl
@[simp] theorem State.setF_d' (s : State) (v : Flags) : (s.setF v).d' = s.d' := rfl
@[simp] theorem State.setF_e' (s : State) (v : Flags) : (s.setF v).e' = s.e' := rfl
@[simp] theorem State.setF_h' (s : State) (v : Flags) : (s.setF v).h' = s.h' := rfl
@[simp] theorem State.setF_l' (s : State) (v : Flags) : (s.setF v).l' = s.l' := rfl
@[simp] theorem State.setF_ix (s : State) (v : Flags) : (s.setF v).ix = s.ix := rfl
@[simp] theorem State.setF_iy (s : State) (v : Flags) : (s.setF v).iy = s.iy := rfl
@[simp] theorem State.setF_sp (s : State) (v : Flags) : (s.setF v).sp = s.sp := rfl
@[simp] theorem State.setF_pc (s : State) (v : Flags) : (s.setF v).pc = s.pc := rfl
@[simp] theorem State.setF_i (s : State) (v : Flags) : (s.setF v).i = s.i := rfl
@[simp] theorem State.setF_r (s : State) (v : Flags) : (s.setF v).r = s.r := rfl
@[simp] theorem State.setF_iff (s : State) (v : Flags) : (s.setF v).iff = s.iff := rfl
@[simp] theorem State.setF_latch (s : State) (v : Flags) : (s.setF v).latch = s.latch := rfl
@[simp] theorem State.setF_terminate (s : State) (v : Flags) : (s.setF v).terminate = s.terminate := rfl
@[simp] theorem State.setF_termReason (s : State) (v : Flags) : (s.setF v).termReason = s.termReason := rfl
@[simp] theorem State.setF_mem (s : State) (v : Flags) : (s.setF v).mem = s.mem := rfl
@[simp] theorem State.setF_plane (s : State) (v : Flags) : (s.setF v).plane = s.plane := rfl
@[simp] theorem State.setF_signal (s : State) (v : Flags) : (s.setF v).signal = s.signal := rfl
@[simp] theorem State.setF_env (s : State) (v : Flags) : (s.setF v).env = s.env := rfl
@[simp] theorem State.setF_dma (s : State) (v : Flags) : (s.setF v).dma = s.dma := rfl
@[simp] theorem State.setF_dpbAddr (s : State) (v : Flags) : (s.setF v).dpbAddr = s.dpbAddr := rfl
@[simp] theorem State.setF_alvAddr (s : State) (v : Flags) : (s.setF v).alvAddr = s.alvAddr := rfl

/-! ### `setSp` -/

@[simp] theorem State.setSp_a (s : State) (w : Word) : (s.setSp w).a = s.a := rfl
@[simp] theorem State.setSp_f (s : State) (w : Word) : (s.setSp w).f = s.f := rfl
@[simp] theorem State.setSp_b (s : State) (w : Word) : (s.setSp w).b = s.b := rfl
@[simp] theorem State.setSp_c (s : State) (w : Word) : (s.setSp w).c = s.c := rfl
@[simp] theorem State.setSp_d (s : State) (w : Word) : (s.setSp w).d = s.d := rfl
@[simp] theorem State.setSp_e (s : State) (w : Word) : (s.setSp w).e = s.e := rfl
@[simp] theorem State.setSp_h (s : State) (w : Word) : (s.setSp w).h = s.h := rfl
@[simp] theorem State.setSp_l (s : State) (w : Word) : (s.setSp w).l = s.l := rfl
@[simp] theorem State.setSp_a' (s : State) (w : Word) : (s.setSp w).a' = s.a' := rfl
@[simp] theorem State.setSp_f' (s : State) (w : Word) : (s.setSp w).f' = s.f' := rfl
@[simp] theorem State.setSp_b' (s : State) (w : Word) : (s.setSp w).b' = s.b' := rfl
@[simp] theorem State.setSp_c' (s : State) (w : Word) : (s.setSp w).c' = s.c' := rfl
@[simp] theorem State.setSp_d' (s : State) (w : Word) : (s.setSp w).d' = s.d' := rfl
@[simp] theorem State.setSp_e' (s : State) (w : Word) : (s.setSp w).e' = s.e' := rfl
@[simp] theorem State.setSp_h' (s : State) (w : Word) : (s.setSp w).h' = s.h' := rfl
@[simp] theorem State.setSp_l' (s : State) (w : Word) : (s.setSp w).l' = s.l' := rfl
@[simp] theorem State.setSp_ix (s : State) (w : Word) : (s.setSp w).ix = s.ix := rfl
@[simp] theorem State.setSp_iy (s : State) (w : Word) : (s.setSp w).iy = s.iy := rfl
@[simp] theorem State.setSp_sp (s : State) (w : Word) : (s.setSp w).sp = w := rfl
@[simp] theorem State.setSp_pc (s : State) (w : Word) : (s.setSp w).pc = s.pc := rfl
@[simp] theorem State.setSp_i (s : State) (w : Word) : (s.setSp w).i = s.i := rfl
@[simp] theorem State.setSp_r (s : State) (w : Word) : (s.setSp w).r = s.r := rfl
@[simp] theorem State.setSp_iff (s : State) (w : Word) : (s.setSp w).iff = s.iff := rfl
@[simp] theorem State.setSp_latch (s : State) (w : Word) : (s.setSp w).latch = s.latch := rfl
@[simp] theorem State.setSp_terminate (s : State) (w : Word) : (s.setSp w).terminate = s.terminate := rfl
@[simp] theorem State.setSp_termReason (s : State) (w : Word) : (s.setSp w).termReason = s.termReason := rfl
@[simp] theorem State.setSp_mem (s : State) (w : Word) : (s.setSp w).mem = s.mem := rfl
@[simp] theorem State.setSp_plane (s : State) (w : Word) : (s.setSp w).plane = s.plane := rfl
@[simp] theorem State.setSp_signal (s : State) (w : Word) : (s.setSp w).signal = s.signal := rfl
@[simp] theorem State.setSp_env (s : State) (w : Word) : (s.setSp w).env = s.env := rfl
@[simp] theorem State.setSp_dma (s : State) (w : Word) : (s.setSp w).dma = s.dma := rfl
@[simp] theorem State.setSp_dpbAddr (s : State) (w : Word) : (s.setSp w).dpbAddr = s.dpbAddr := rfl
@[simp] theorem State.setSp_alvAddr (s : State) (w : Word) : (s.setSp w).alvAddr = s.alvAddr := rfl

/-! ### `setPc` -/

@[simp] theorem State.setPc_a (s : State) (w : Word) : (s.setPc w).a = s.a := rfl
@[simp] theorem State.setPc_f (s : State) (w : Word) : (s.setPc w).f = s.f := rfl
@[simp] theorem State.setPc_b (s : State) (w : Word) : (s.setPc w).b = s.b := rfl
@[simp] theorem State.setPc_c (s : State) (w : Word) : (s.setPc w).c = s.c := rfl
@[simp] theorem State.setPc_d (s : State) (w : Word) : (s.setPc w).d = s.d := rfl
@[simp] theorem State.setPc_e (s : State) (w : Word) : (s.setPc w).e = s.e := rfl
@[simp] theorem State.setPc_h (s : State) (w : Word) : (s.setPc w).h = s.h := rfl
@[simp] theorem State.setPc_l (s : State) (w : Word) : (s.setPc w).l = s.l := rfl
@[simp] theorem State.setPc_a' (s : State) (w : Word) : (s.setPc w).a' = s.a' := rfl
@[simp] theorem State.setPc_f' (s : State) (w : Word) : (s.setPc w).f' = s.f' := rfl
@[simp] theorem State.setPc_b' (s : State) (w : Word) : (s.setPc w).b' = s.b' := rfl
@[simp] theorem State.setPc_c' (s : State) (w : Word) : (s.setPc w).c' = s.c' := rfl
@[simp] theorem State.setPc_d' (s : State) (w : Word) : (s.setPc w).d' = s.d' := rfl
@[simp] theorem State.setPc_e' (s : State) (w : Word) : (s.setPc w).e' = s.e' := rfl
@[simp] theorem State.setPc_h' (s : State) (w : Word) : (s.setPc w).h' = s.h' := rfl
@[simp] theorem State.setPc_l' (s : State) (w : Word) : (s.setPc w).l' = s.l' := rfl
@[simp] theorem State.setPc_ix (s : State) (w : Word) : (s.setPc w).ix = s.ix := rfl
@[simp] theorem State.setPc_iy (s : State) (w : Word) : (s.setPc w).iy = s.iy := rfl
@[simp] theorem State.setPc_sp (s : State) (w : Word) : (s.setPc w).sp = s.sp := rfl
@[simp] theorem State.setPc_pc (s : State) (w : Word) : (s.setPc w).pc = w := rfl
@[simp] theorem State.setPc_i (s : State) (w : Word) : (s.setPc w).i = s.i := rfl
@[simp] theorem State.setPc_r (s : State) (w : Word) : (s.setPc w).r = s.r := rfl
@[simp] theorem State.setPc_iff (s : State) (w : Word) : (s.setPc w).iff = s.iff := rfl
@[simp] theorem State.setPc_latch (s : State) (w : Word) : (s.setPc w).latch = s.latch := rfl
@[simp] theorem State.setPc_terminate (s : State) (w : Word) : (s.setPc w).terminate = s.terminate := rfl
@[simp] theorem State.setPc_termReason (s : State) (w : Word) : (s.setPc w).termReason = s.termReason := rfl
@[simp] theorem State.setPc_mem (s : State) (w : Word) : (s.setPc w).mem = s.mem := rfl
@[simp] theorem State.setPc_plane (s : State) (w : Word) : (s.setPc w).plane = s.plane := rfl
@[simp] theorem State.setPc_signal (s : State) (w : Word) : (s.setPc w).signal = s.signal := rfl
@[simp] theorem State.setPc_env (s : State) (w : Word) : (s.setPc w).env = s.env := rfl
@[simp] theorem State.setPc_dma (s : State) (w : Word) : (s.setPc w).dma = s.dma := rfl
@[simp] theorem State.setPc_dpbAddr (s : State) (w : Word) : (s.setPc w).dpbAddr = s.dpbAddr := rfl
@[simp] theorem State.setPc_alvAddr (s : State) (w : Word) : (s.setPc w).alvAddr = s.alvAddr := rfl

/-! ### `writeByte` -/

@[simp] theorem State.writeByte_a (s : State) (a : Word) (v : Byte) : (s.writeByte a v).a = s.a := rfl
@[simp] theorem State.writeByte_f (s : State) (a : Word) (v : Byte) : (s.writeByte a v).f = s.f := rfl
@[simp] theorem State.writeByte_b (s : State) (a : Word) (v : Byte) : (s.writeByte a v).b = s.b := rfl
@[simp] theorem State.writeByte_c (s : State) (a : Word) (v : Byte) : (s.writeByte a v).c = s.c := rfl
@[simp] theorem State.writeByte_d (s : State) (a : Word) (v : Byte) : (s.writeByte a v).d = s.d := rfl
@[simp] theorem State.writeByte_e (s : State) (a : Word) (v : Byte) : (s.writeByte a v).e = s.e := rfl
@[simp] theorem State.writeByte_h (s : State) (a : Word) (v : Byte) : (s.writeByte a v).h = s.h := rfl
@[simp] theorem State.writeByte_l (s : State) (a : Word) (v : Byte) : (s.writeByte a v).l = s.l := rfl
@[simp] theorem State.writeByte_a' (s : State) (a : Word) (v : Byte) : (s.writeByte a v).a' = s.a' := rfl
@[simp] theorem State.writeByte_f' (s : State) (a : Word) (v : Byte) : (s.writeByte a v).f' = s.f' := rfl
@[simp] theorem State.writeByte_b' (s : State) (a : Word) (v : Byte) : (s.writeByte a v).b' = s.b' := rfl
@[simp] theorem State.writeByte_c' (s : State) (a : Word) (v : Byte) : (s.writeByte a v).c' = s.c' := rfl
@[simp] theorem State.writeByte_d' (s : State) (a : Word) (v : Byte) : (s.writeByte a v).d' = s.d' := rfl
@[simp] theorem State.writeByte_e' (s : State) (a : Word) (v : Byte) : (s.writeByte a v).e' = s.e' := rfl
@[simp] theorem State.writeByte_h' (s : State) (a : Word) (v : Byte) : (s.writeByte a v).h' = s.h' := rfl
@[simp] theorem State.writeByte_l' (s : State) (a : Word) (v : Byte) : (s.writeByte a v).l' = s.l' := rfl
@[simp] theorem State.writeByte_ix (s : State) (a : Word) (v : Byte) : (s.writeByte a v).ix = s.ix := rfl
@[simp] theorem State.writeByte_iy (s : State) (a : Word) (v : Byte) : (s.writeByte a v).iy = s.iy := rfl
@[simp] theorem State.writeByte_sp (s : State) (a : Word) (v : Byte) : (s.writeByte a v).sp = s.sp := rfl
@[simp] theorem State.writeByte_pc (s : State) (a : Word) (v : Byte) : (s.writeByte a v).pc = s.pc := rfl
@[simp] theorem State.writeByte_i (s : State) (a : Word) (v : Byte) : (s.writeByte a v).i = s.i := rfl
@[simp] theorem State.writeByte_r (s : State) (a : Word) (v : Byte) : (s.writeByte a v).r = s.r := rfl
@[simp] theorem State.writeByte_iff (s : State) (a : Word) (v : Byte) : (s.writeByte a v).iff = s.iff := rfl
@[simp] theorem State.writeByte_latch (s : State) (a : Word) (v : Byte) : (s.writeByte a v).latch = s.latch := rfl
@[simp] theorem State.writeByte_terminate (s : State) (a : Word) (v : Byte) : (s.writeByte a v).terminate = s.terminate := rfl
@[simp] theorem State.writeByte_termReason (s : State) (a : Word) (v : Byte) : (s.writeByte a v).termReason = s.termReason := rfl
@[simp] theorem State.writeByte_mem (s : State) (a : Word) (v : Byte) : (s.writeByte a v).mem = s.mem.set a.toNat v := rfl
@[simp] theorem State.writeByte_plane (s : State) (a : Word) (v : Byte) : (s.writeByte a v).plane = s.plane := rfl
@[simp] theorem State.writeByte_signal (s : State) (a : Word) (v : Byte) : (s.writeByte a v).signal = s.signal := rfl
@[simp] theorem State.writeByte_env (s : State) (a : Word) (v : Byte) : (s.writeByte a v).env = s.env := rfl
@[simp] theorem State.writeByte_dma (s : State) (a : Word) (v : Byte) : (s.writeByte a v).dma = s.dma := rfl
@[simp] theorem State.writeByte_dpbAddr (s : State) (a : Word) (v : Byte) : (s.writeByte a v).dpbAddr = s.dpbAddr := rfl
@[simp] theorem State.writeByte_alvAddr (s : State) (a : Word) (v : Byte) : (s.writeByte a v).alvAddr = s.alvAddr := rfl

/-! ### `writeWord` -/

@[simp] theorem State.writeWord_a (s : State) (a w : Word) : (s.writeWord a w).a = s.a := by simp [State.writeWord]
@[simp] theorem State.writeWord_f (s : State) (a w : Word) : (s.writeWord a w).f = s.f := by simp [State.writeWord]
@[simp] theorem State.writeWord_b (s : State) (a w : Word) : (s.writeWord a w).b = s.b := by simp [State.writeWord]
@[simp] theorem State.writeWord_c (s : State) (a w : Word) : (s.writeWord a w).c = s.c := by simp [State.writeWord]
@[simp] theorem State.writeWord_d (s : State) (a w : Word) : (s.writeWord a w).d = s.d := by simp [State.writeWord]
@[simp] theorem State.writeWord_e (s : State) (a w : Word) : (s.writeWord a w).e = s.e := by simp [State.writeWord]
@[simp] theorem State.writeWord_h (s : State) (a w : Word) : (s.writeWord a w).h = s.h := by simp [State.writeWord]
@[simp] theorem State.writeWord_l (s : State) (a w : Word) : (s.writeWord a w).l = s.l := by simp [State.writeWord]
@[simp] theorem State.writeWord_a' (s : State) (a w : Word) : (s.writeWord a w).a' = s.a' := by simp [State.writeWord]
@[simp] theorem State.writeWord_f' (s : State) (a w : Word) : (s.writeWord a w).f' = s.f' := by simp [State.writeWord]
@[simp] theorem State.writeWord_b' (s : State) (a w : Word) : (s.writeWord a w).b' = s.b' := by simp [State.writeWord]
@[simp] theorem State.writeWord_c' (s : State) (a w : Word) : (s.writeWord a w).c' = s.c' := by simp [State.writeWord]
@[simp] theorem State.writeWord_d' (s : State) (a w : Word) : (s.writeWord a w).d' = s.d' := by simp [State.writeWord]
@[simp] theorem State.writeWord_e' (s : State) (a w : Word) : (s.writeWord a w).e' = s.e' := by simp [State.writeWord]
@[simp] theorem State.writeWord_h' (s : State) (a w : Word) : (s.writeWord a w).h' = s.h' := by simp [State.writeWord]
@[simp] theorem State.writeWord_l' (s : State) (a w : Word) : (s.writeWord a w).l' = s.l' := by simp [State.writeWord]
@[simp] theorem State.writeWord_ix (s : State) (a w : Word) : (s.writeWord a w).ix = s.ix := by simp [State.writeWord]
@[simp] theorem State.writeWord_iy (s : State) (a w : Word) : (s.writeWord a w).iy = s.iy := by simp [State.writeWord]
@[simp] theorem State.writeWord_sp (s : State) (a w : Word) : (s.writeWord a w).sp = s.sp := by simp [State.writeWord]
@[simp] theorem State.writeWord_pc (s : State) (a w : Word) : (s.writeWord a w).pc = s.pc := by simp [State.writeWord]
@[simp] theorem State.writeWord_i (s : State) (a w : Word) : (s.writeWord a w).i = s.i := by simp [State.writeWord]
@[simp] theorem State.writeWord_r (s : State) (a w : Word) : (s.writeWord a w).r = s.r := by simp [State.writeWord]
@[simp] theorem State.writeWord_iff (s : State) (a w : Word) : (s.writeWord a w).iff = s.iff := by simp [State.writeWord]
@[simp] theorem State.writeWord_latch (s : State) (a w : Word) : (s.writeWord a w).latch = s.latch := by simp [State.writeWord]
@[simp] theorem State.writeWord_terminate (s : State) (a w : Word) : (s.writeWord a w).terminate = s.terminate := by simp [State.writeWord]
@[simp] theorem State.writeWord_termReason (s : State) (a w : Word) : (s.writeWord a w).termReason = s.termReason := by simp [State.writeWord]
@[simp] theorem State.writeWord_mem (s : State) (a w : Word) : (s.writeWord a w).mem = (s.mem.set a.toNat (loByte w)).set (a + 1).toNat (hiByte w) := by simp [State.writeWord]
@[simp] theorem State.writeWord_plane (s : State) (a w : Word) : (s.writeWord a w).plane = s.plane := by simp [State.writeWord]
@[simp] theorem State.writeWord_signal (s : State) (a w : Word) : (s.writeWord a w).signal = s.signal := by simp [State.writeWord]
@[simp] theorem State.writeWord_env (s : State) (a w : Word) : (s.writeWord a w).env = s.env := by simp [State.writeWord]
@[simp] theorem State.writeWord_dma (s : State) (a w : Word) : (s.writeWord a w).dma = s.dma := by simp [State.writeWord]
@[simp] theorem State.writeWord_dpbAddr (s : State) (a w : Word) : (s.writeWord a w).dpbAddr = s.dpbAddr := by simp [State.writeWord]
@[simp] theorem State.writeWord_alvAddr (s : State) (a w : Word) : (s.writeWord a w).alvAddr = s.alvAddr := by simp [State.writeWord]

/-! ### `push` -/

@[simp] theorem State.push_a (s : State) (w : Word) : (s.push w).a = s.a := by simp [State.push]
@[simp] theorem State.push_f (s : State) (w : Word) : (s.push w).f = s.f := by simp [State.push]
@[simp] theorem State.push_b (s : State) (w : Word) : (s.push w).b = s.b := by simp [State.push]
@[simp] theorem State.push_c (s : State) (w : Word) : (s.push w).c = s.c := by simp [State.push]
@[simp] theorem State.push_d (s : State) (w : Word) : (s.push w).d = s.d := by simp [State.push]
@[simp] theorem State.push_e (s : State) (w : Word) : (s.push w).e = s.e := by simp [State.push]
@[simp] theorem State.push_h (s : State) (w : Word) : (s.push w).h = s.h := by simp [State.push]
@[simp] theorem State.push_l (s : State) (w : Word) : (s.push w).l = s.l := by simp [State.push]
@[simp] theorem State.push_a' (s : State) (w : Word) : (s.push w).a' = s.a' := by simp [State.push]
@[simp] theorem State.push_f' (s : State) (w : Word) : (s.push w).f' = s.f' := by simp [State.push]
@[simp] theorem State.push_b' (s : State) (w : Word) : (s.push w).b' = s.b' := by simp [State.push]
@[simp] theorem State.push_c' (s : State) (w : Word) : (s.push w).c' = s.c' := by simp [State.push]
@[simp] theorem State.push_d' (s : State) (w : Word) : (s.push w).d' = s.d' := by simp [State.push]
@[simp] theorem State.push_e' (s : State) (w : Word) : (s.push w).e' = s.e' := by simp [State.push]
@[simp] theorem State.push_h' (s : State) (w : Word) : (s.push w).h' = s.h' := by simp [State.push]
@[simp] theorem State.push_l' (s : State) (w : Word) : (s.push w).l' = s.l' := by simp [State.push]
@[simp] theorem State.push_ix (s : State) (w : Word) : (s.push w).ix = s.ix := by simp [State.push]
@[simp] theorem State.push_iy (s : State) (w : Word) : (s.push w).iy = s.iy := by simp [State.push]
@[simp] theorem State.push_sp (s : State) (w : Word) : (s.push w).sp = s.sp - 2 := by simp [State.push]
@[simp] theorem State.push_pc (s : State) (w : Word) : (s.push w).pc = s.pc := by simp [State.push]
@[simp] theorem State.push_i (s : State) (w : Word) : (s.push w).i = s.i := by simp [State.push]
@[simp] theorem State.push_r (s : State) (w : Word) : (s.push w).r = s.r := by simp [State.push]
@[simp] theorem State.push_iff (s : State) (w : Word) : (s.push w).iff = s.iff := by simp [State.push]
@[simp] theorem State.push_latch (s : State) (w : Word) : (s.push w).latch = s.latch := by simp [State.push]
@[simp] theorem State.push_terminate (s : State) (w : Word) : (s.push w).terminate = s.terminate := by simp [State.push]
@[simp] theorem State.push_termReason (s : State) (w : Word) : (s.push w).termReason = s.termReason := by simp [State.push]
@[simp] theorem State.push_mem (s : State) (w : Word) : (s.push w).mem = (s.mem.set (s.sp - 1).toNat (hiByte w)).set (s.sp - 2).toNat (loByte w) := by simp [State.push]
@[simp] theorem State.push_plane (s : State) (w : Word) : (s.push w).plane = s.plane := by simp [State.push]
@[simp] theorem State.push_signal (s : State) (w : Word) : (s.push w).signal = s.signal := by simp [State.push]
@[simp] theorem State.push_env (s : State) (w : Word) : (s.push w).env = s.env := by simp [State.push]
@[simp] theorem State.push_dma (s : State) (w : Word) : (s.push w).dma = s.dma := by simp [State.push]
@[simp] theorem State.push_dpbAddr (s : State) (w : Word) : (s.push w).dpbAddr = s.dpbAddr := by simp [State.push]
@[simp] theorem State.push_alvAddr (s : State) (w : Word) : (s.push w).alvAddr = s.alvAddr := by simp [State.push]

/-! ### `popped` -/

@[simp] theorem State.popped_a (s : State) : (s.popped).a = s.a := by simp [State.popped]
@[simp] theorem State.popped_f (s : State) : (s.popped).f = s.f := by simp [State.popped]
@[simp] theorem State.popped_b (s : State) : (s.popped).b = s.b := by simp [State.popped]
@[simp] theorem State.popped_c (s : State) : (s.popped).c = s.c := by simp [State.popped]
@[simp] theorem State.popped_d (s : State) : (s.popped).d = s.d := by simp [State.popped]
@[simp] theorem State.popped_e (s : State) : (s.popped).e = s.e := by simp [State.popped]
@[simp] theorem State.popped_h (s : State) : (s.popped).h = s.h := by simp [State.popped]
@[simp] theorem State.popped_l (s : State) : (s.popped).l = s.l := by simp [State.popped]
@[simp] theorem State.popped_a' (s : State) : (s.popped).a' = s.a' := by simp [State.popped]
@[simp] theorem State.popped_f' (s : State) : (s.popped).f' = s.f' := by simp [State.popped]
@[simp] theorem State.popped_b' (s : State) : (s.popped).b' = s.b' := by simp [State.popped]
@[simp] theorem State.popped_c' (s : State) : (s.popped).c' = s.c' := by simp [State.popped]
@[simp] theorem State.popped_d' (s : State) : (s.popped).d' = s.d' := by simp [State.popped]
@[simp] theorem State.popped_e' (s : State) : (s.popped).e' = s.e' := by simp [State.popped]
@[simp] theorem State.popped_h' (s : State) : (s.popped).h' = s.h' := by simp [State.popped]
@[simp] theorem State.popped_l' (s : State) : (s.popped).l' = s.l' := by simp [State.popped]
@[simp] theorem State.popped_ix (s : State) : (s.popped).ix = s.ix := by simp [State.popped]
@[simp] theorem State.popped_iy (s : State) : (s.popped).iy = s.iy := by simp [State.popped]
@[simp] theorem State.popped_sp (s : State) : (s.popped).sp = s.sp + 2 := by simp [State.popped]
@[simp] theorem State.popped_pc (s : State) : (s.popped).pc = s.pc := by simp [State.popped]
@[simp] theorem State.popped_i (s : State) : (s.popped).i = s.i := by simp [State.popped]
@[simp] theorem State.popped_r (s : State) : (s.popped).r = s.r := by simp [State.popped]
@[simp] theorem State.popped_iff (s : State) : (s.popped).iff = s.iff := by simp [State.popped]
@[simp] theorem State.popped_latch (s : State) : (s.popped).latch = s.latch := by simp [State.popped]
@[simp] theorem State.popped_terminate (s : State) : (s.popped).terminate = s.terminate := by simp [State.popped]
@[simp] theorem State.popped_termReason (s : State) : (s.popped).termReason = s.termReason := by simp [State.popped]
@[simp] theorem State.popped_mem (s : State) : (s.popped).mem = s.mem := by simp [State.popped]
@[simp] theorem State.popped_plane (s : State) : (s.popped).plane = s.plane := by simp [State.popped]
@[simp] theorem State.popped_signal (s : State) : (s.popped).signal = s.signal := by simp [State.popped]
@[simp] theorem State.popped_env (s : State) : (s.popped).env = s.env := by simp [State.popped]
@[simp] theorem State.popped_dma (s : State) : (s.popped).dma = s.dma := by simp [State.popped]
@[simp] theorem State.popped_dpbAddr (s : State) : (s.popped).dpbAddr = s.dpbAddr := by simp [State.popped]
@[simp] theorem State.popped_alvAddr (s : State) : (s.popped).alvAddr = s.alvAddr := by simp [State.popped]

/-! ### `popPc` -/

@[simp] theorem State.popPc_a (s : State) : (s.popPc).a = s.a := by simp [State.popPc]
@[simp] theorem State.popPc_f (s : State) : (s.popPc).f = s.f := by simp [State.popPc]
@[simp] theorem State.popPc_b (s : State) : (s.popPc).b = s.b := by simp [State.popPc]
@[simp] theorem State.popPc_c (s : State) : (s.popPc).c = s.c := by simp [State.popPc]
@[simp] theorem State.popPc_d (s : State) : (s.popPc).d = s.d := by simp [State.popPc]
@[simp] theorem State.popPc_e (s : State) : (s.popPc).e = s.e := by simp [State.popPc]
@[simp] theorem State.popPc_h (s : State) : (s.popPc).h = s.h := by simp [State.popPc]
@[simp] theorem State.popPc_l (s : State) : (s.popPc).l = s.l := by simp [State.popPc]
@[simp] theorem State.popPc_a' (s : State) : (s.popPc).a' = s.a' := by simp [State.popPc]
@[simp] theorem State.popPc_f' (s : State) : (s.popPc).f' = s.f' := by simp [State.popPc]
@[simp] theorem State.popPc_b' (s : State) : (s.popPc).b' = s.b' := by simp [State.popPc]
@[simp] theorem State.popPc_c' (s : State) : (s.popPc).c' = s.c' := by simp [State.popPc]
@[simp] theorem State.popPc_d' (s : State) : (s.popPc).d' = s.d' := by simp [State.popPc]
@[simp] theorem State.popPc_e' (s : State) : (s.popPc).e' = s.e' := by simp [State.popPc]
@[simp] theorem State.popPc_h' (s : State) : (s.popPc).h' = s.h' := by simp [State.popPc]
@[simp] theorem State.popPc_l' (s : State) : (s.popPc).l' = s.l' := by simp [State.popPc]
@[simp] theorem State.popPc_ix (s : State) : (s.popPc).ix = s.ix := by simp [State.popPc]
@[simp] theorem State.popPc_iy (s : State) : (s.popPc).iy = s.iy := by simp [State.popPc]
@[simp] theorem State.popPc_sp (s : State) : (s.popPc).sp = s.sp + 2 := by simp [State.popPc]
@[simp] theorem State.popPc_pc (s : State) : (s.popPc).pc = s.readWord s.sp := by simp [State.popPc]
@[simp] theorem State.popPc_i (s : State) : (s.popPc).i = s.i := by simp [State.popPc]
@[simp] theorem State.popPc_r (s : State) : (s.popPc).r = s.r := by simp [State.popPc]
@[simp] theorem State.popPc_iff (s : State) : (s.popPc).iff = s.iff := by simp [State.popPc]
@[simp] theorem State.popPc_latch (s : State) : (s.popPc).latch = s.latch := by simp [State.popPc]
@[simp] theorem State.popPc_terminate (s : State) : (s.popPc).terminate = s.terminate := by simp [State.popPc]
@[simp] theorem State.popPc_termReason (s : State) : (s.popPc).termReason = s.termReason := by simp [State.popPc]
@[simp] theorem State.popPc_mem (s : State) : (s.popPc).mem = s.mem := by simp [State.popPc]
@[simp] theorem State.popPc_plane (s : State) : (s.popPc).plane = s.plane := by simp [State.popPc]
@[simp] theorem State.popPc_signal (s : State) : (s.popPc).signal = s.signal := by simp [State.popPc]
@[simp] theorem State.popPc_env (s : State) : (s.popPc).env = s.env := by simp [State.popPc]
@[simp] theorem State.popPc_dma (s : State) : (s.popPc).dma = s.dma := by simp [State.popPc]
@[simp] theorem State.popPc_dpbAddr (s : State) : (s.popPc).dpbAddr = s.dpbAddr := by simp [State.popPc]
@[simp] theorem State.popPc_alvAddr (s : State) : (s.popPc).alvAddr = s.alvAddr := by simp [State.popPc]

/-! ### `call` -/

@[simp] theorem State.call_a (s : State) (w : Word) : (s.call w).a = s.a := by simp [State.call]
@[simp] theorem State.call_f (s : State) (w : Word) : (s.call w).f = s.f := by simp [State.call]
@[simp] theorem State.call_b (s : State) (w : Word) : (s.call w).b = s.b := by simp [State.call]
@[simp] theorem State.call_c (s : State) (w : Word) : (s.call w).c = s.c := by simp [State.call]
@[simp] theorem State.call_d (s : State) (w : Word) : (s.call w).d = s.d := by simp [State.call]
@[simp] theorem State.call_e (s : State) (w : Word) : (s.call w).e = s.e := by simp [State.call]
@[simp] theorem State.call_h (s : State) (w : Word) : (s.call w).h = s.h := by simp [State.call]
@[simp] theorem State.call_l (s : State) (w : Word) : (s.call w).l = s.l := by simp [State.call]
@[simp] theorem State.call_a' (s : State) (w : Word) : (s.call w).a' = s.a' := by simp [State.call]
@[simp] theorem State.call_f' (s : State) (w : Word) : (s.call w).f' = s.f' := by simp [State.call]
@[simp] theorem State.call_b' (s : State) (w : Word) : (s.call w).b' = s.b' := by simp [State.call]
@[simp] theorem State.call_c' (s : State) (w : Word) : (s.call w).c' = s.c' := by simp [State.call]
@[simp] theorem State.call_d' (s : State) (w : Word) : (s.call w).d' = s.d' := by simp [State.call]
@[simp] theorem State.call_e' (s : State) (w : Word) : (s.call w).e' = s.e' := by simp [State.call]
@[simp] theorem State.call_h' (s : State) (w : Word) : (s.call w).h' = s.h' := by simp [State.call]
@[simp] theorem State.call_l' (s : State) (w : Word) : (s.call w).l' = s.l' := by simp [State.call]
@[simp] theorem State.call_ix (s : State) (w : Word) : (s.call w).ix = s.ix := by simp [State.call]
@[simp] theorem State.call_iy (s : State) (w : Word) : (s.call w).iy = s.iy := by simp [State.call]
@[simp] theorem State.call_sp (s : State) (w : Word) : (s.call w).sp = s.sp - 2 := by simp [State.call]
@[simp] theorem State.call_pc (s : State) (w : Word) : (s.call w).pc = w := by simp [State.call]
@[simp] theorem State.call_i (s : State) (w : Word) : (s.call w).i = s.i := by simp [State.call]
@[simp] theorem State.call_r (s : State) (w : Word) : (s.call w).r = s.r := by simp [State.call]
@[simp] theorem State.call_iff (s : State) (w : Word) : (s.call w).iff = s.iff := by simp [State.call]
@[simp] theorem State.call_latch (s : State) (w : Word) : (s.call w).latch = s.latch := by simp [State.call]
@[simp] theorem State.call_terminate (s : State) (w : Word) : (s.call w).terminate = s.terminate := by simp [State.call]
@[simp] theorem State.call_termReason (s : State) (w : Word) : (s.call w).termReason = s.termReason := by simp [State.call]
@[simp] theorem State.call_mem (s : State) (w : Word) : (s.call w).mem = (s.mem.set (s.sp - 1).toNat (hiByte s.pc)).set (s.sp - 2).toNat (loByte s.pc) := by simp [State.call]
@[simp] theorem State.call_plane (s : State) (w : Word) : (s.call w).plane = s.plane := by simp [State.call]
@[simp] theorem State.call_signal (s : State) (w : Word) : (s.call w).signal = s.signal := by simp [State.call]
@[simp] theorem State.call_env (s : State) (w : Word) : (s.call w).env = s.env := by simp [State.call]
@[simp] theorem State.call_dma (s : State) (w : Word) : (s.call w).dma = s.dma := by simp [State.call]
@[simp] theorem State.call_dpbAddr (s : State) (w : Word) : (s.call w).dpbAddr = s.dpbAddr := by simp [State.call]
@[simp] theorem State.call_alvAddr (s : State) (w : Word) : (s.call w).alvAddr = s.alvAddr := by simp [State.call]

/-! ### `jumpRelative` -/

@[simp] theorem State.jumpRelative_a (s : State) (e : Byte) : (s.jumpRelative e).a = s.a := by simp [State.jumpRelative]
@[simp] theorem State.jumpRelative_f (s : State) (e : Byte) : (s.jumpRelative e).f = s.f := by simp [State.jumpRelative]
@[simp] theorem State.jumpRelative_b (s : State) (e : Byte) : (s.jumpRelative e).b = s.b := by simp [State.jumpRelative]
@[simp] theorem State.jumpRelative_c (s : State) (e : Byte) : (s.jumpRelative e).c = s.c := by simp [State.jumpRelative]
@[simp] theorem State.jumpRelative_d (s : State) (e : Byte) : (s.jumpRelative e).d = s.d := by simp [State.jumpRelative]
@[simp] theorem State.jumpRelative_e (s : State) (e : Byte) : (s.jumpRelative e).e = s.e := by simp [State.jumpRelative]
@[simp] theorem State.jumpRelative_h (s : State) (e : Byte) : (s.jumpRelative e).h = s.h := by simp [State.jumpRelative]
@[simp] theorem State.jumpRelative_l (s : State) (e : Byte) : (s.jumpRelative e).l = s.l := by simp [State.jumpRelative]
@[simp] theorem State.jumpRelative_a' (s : State) (e : Byte) : (s.jumpRelative e).a' = s.a' := by simp [State.jumpRelative]
@[simp] theorem State.jumpRelative_f' (s : State) (e : Byte) : (s.jumpRelative e).f' = s.f' := by simp [State.jumpRelative]
@[simp] theorem State.jumpRelative_b' (s : State) (e : Byte) : (s.jumpRelative e).b' = s.b' := by simp [State.jumpRelative]
@[simp] theorem State.jumpRelative_c' (s : State) (e : Byte) : (s.jumpRelative e).c' = s.c' := by simp [State.jumpRelative]
@[simp] theorem State.jumpRelative_d' (s : State) (e : Byte) : (s.jumpRelative e).d' = s.d' := by simp [State.jumpRelative]
@[simp] theorem State.jumpRelative_e' (s : State) (e : Byte) : (s.jumpRelative e).e' = s.e' := by simp [State.jumpRelative]
@[simp] theorem State.jumpRelative_h' (s : State) (e : Byte) : (s.jumpRelative e).h' = s.h' := by simp [State.jumpRelative]
@[simp] theorem State.jumpRelative_l' (s : State) (e : Byte) : (s.jumpRelative e).l' = s.l' := by simp [State.jumpRelative]
@[simp] theorem State.jumpRelative_ix (s : State) (e : Byte) : (s.jumpRelative e).ix = s.ix := by simp [State.jumpRelative]
@[simp] theorem State.jumpRelative_iy (s : State) (e : Byte) : (s.jumpRelative e).iy = s.iy := by simp [State.jumpRelative]
@[simp] theorem State.jumpRelative_sp (s : State) (e : Byte) : (s.jumpRelative e).sp = s.sp := by simp [State.jumpRelative]
@[simp] theorem State.jumpRelative_pc (s : State) (e : Byte) : (s.jumpRelative e).pc = s.pc + sext8 e := by simp [State.jumpRelative]
@[simp] theorem State.jumpRelative_i (s : State) (e : Byte) : (s.jumpRelative e).i = s.i := by simp [State.jumpRelative]
@[simp] theorem State.jumpRelative_r (s : State) (e : Byte) : (s.jumpRelative e).r = s.r := by simp [State.jumpRelative]
@[simp] theorem State.jumpRelative_iff (s : State) (e : Byte) : (s.jumpRelative e).iff = s.iff := by simp [State.jumpRelative]
@[simp] theorem State.jumpRelative_latch (s : State) (e : Byte) : (s.jumpRelative e).latch = s.latch := by simp [State.jumpRelative]
@[simp] theorem State.jumpRelative_terminate (s : State) (e : Byte) : (s.jumpRelative e).terminate = s.terminate := by simp [State.jumpRelative]
@[simp] theorem State.jumpRelative_termReason (s : State) (e : Byte) : (s.jumpRelative e).termReason = s.termReason := by simp [State.jumpRelative]
@[simp] theorem State.jumpRelative_mem (s : State) (e : Byte) : (s.jumpRelative e).mem = s.mem := by simp [State.jumpRelative]
@[simp] theorem State.jumpRelative_plane (s : State) (e : Byte) : (s.jumpRelative e).plane = s.plane := by simp [State.jumpRelative]
@[simp] theorem State.jumpRelative_signal (s : State) (e : Byte) : (s.jumpRelative e).signal = s.signal := by simp [State.jumpRelative]
@[simp] theorem State.jumpRelative_env (s : State) (e : Byte) : (s.jumpRelative e).env = s.env := by simp [State.jumpRelative]
@[simp] theorem State.jumpRelative_dma (s : State) (e : Byte) : (s.jumpRelative e).dma = s.dma := by simp [State.jumpRelative]
@[simp] theorem State.jumpRelative_dpbAddr (s : State) (e : Byte) : (s.jumpRelative e).dpbAddr = s.dpbAddr := by simp [State.jumpRelative]
@[simp] theorem State.jumpRelative_alvAddr (s : State) (e : Byte) : (s.jumpRelative e).alvAddr = s.alvAddr := by simp [State.jumpRelative]

/-! ### `repeatInstr` -/

@[simp] theorem State.repeatInstr_a (s : State) : (s.repeatInstr).a = s.a := by simp [State.repeatInstr]
@[simp] theorem State.repeatInstr_f (s : State) : (s.repeatInstr).f = s.f := by simp [State.repeatInstr]
@[simp] theorem State.repeatInstr_b (s : State) : (s.repeatInstr).b = s.b := by simp [State.repeatInstr]
@[simp] theorem State.repeatInstr_c (s : State) : (s.repeatInstr).c = s.c := by simp [State.repeatInstr]
@[simp] theorem State.repeatInstr_d (s : State) : (s.repeatInstr).d = s.d := by simp [State.repeatInstr]
@[simp] theorem State.repeatInstr_e (s : State) : (s.repeatInstr).e = s.e := by simp [State.repeatInstr]
@[simp] theorem State.repeatInstr_h (s : State) : (s.repeatInstr).h = s.h := by simp [State.repeatInstr]
@[simp] theorem State.repeatInstr_l (s : State) : (s.repeatInstr).l = s.l := by simp [State.repeatInstr]
@[simp] theorem State.repeatInstr_a' (s : State) : (s.repeatInstr).a' = s.a' := by simp [State.repeatInstr]
@[simp] theorem State.repeatInstr_f' (s : State) : (s.repeatInstr).f' = s.f' := by simp [State.repeatInstr]
@[simp] theorem State.repeatInstr_b' (s : State) : (s.repeatInstr).b' = s.b' := by simp [State.repeatInstr]
@[simp] theorem State.repeatInstr_c' (s : State) : (s.repeatInstr).c' = s.c' := by simp [State.repeatInstr]
@[simp] theorem State.repeatInstr_d' (s : State) : (s.repeatInstr).d' = s.d' := by simp [State.repeatInstr]
@[simp] theorem State.repeatInstr_e' (s : State) : (s.repeatInstr).e' = s.e' := by simp [State.repeatInstr]
@[simp] theorem State.repeatInstr_h' (s : State) : (s.repeatInstr).h' = s.h' := by simp [State.repeatInstr]
@[simp] theorem State.repeatInstr_l' (s : State) : (s.repeatInstr).l' = s.l' := by simp [State.repeatInstr]
@[simp] theorem State.repeatInstr_ix (s : State) : (s.repeatInstr).ix = s.ix := by simp [State.repeatInstr]
@[simp] theorem State.repeatInstr_iy (s : State) : (s.repeatInstr).iy = s.iy := by simp [State.repeatInstr]
@[simp] theorem State.repeatInstr_sp (s : State) : (s.repeatInstr).sp = s.sp := by simp [State.repeatInstr]
@[simp] theorem State.repeatInstr_pc (s : State) : (s.repeatInstr).pc = s.pc - 2 := by simp [State.repeatInstr]
@[simp] theorem State.repeatInstr_i (s : State) : (s.repeatInstr).i = s.i := by simp [State.repeatInstr]
@[simp] theorem State.repeatInstr_r (s : State) : (s.repeatInstr).r = s.r := by simp [State.repeatInstr]
@[simp] theorem State.repeatInstr_iff (s : State) : (s.repeatInstr).iff = s.iff := by simp [State.repeatInstr]
@[simp] theorem State.repeatInstr_latch (s : State) : (s.repeatInstr).latch = s.latch := by simp [State.repeatInstr]
@[simp] theorem State.repeatInstr_terminate (s : State) : (s.repeatInstr).terminate = s.terminate := by simp [State.repeatInstr]
@[simp] theorem State.repeatInstr_termReason (s : State) : (s.repeatInstr).termReason = s.termReason := by simp [State.repeatInstr]
@[simp] theorem State.repeatInstr_mem (s : State) : (s.repeatInstr).mem = s.mem := by simp [State.repeatInstr]
@[simp] theorem State.repeatInstr_plane (s : State) : (s.repeatInstr).plane = s.plane := by simp [State.repeatInstr]
@[simp] theorem State.repeatInstr_signal (s : State) : (s.repeatInstr).signal = s.signal := by simp [State.repeatInstr]
@[simp] theorem State.repeatInstr_env (s : State) : (s.repeatInstr).env = s.env := by simp [State.repeatInstr]
@[simp] theorem State.repeatInstr_dma (s : State) : (s.repeatInstr).dma = s.dma := by simp [State.repeatInstr]
@[simp] theorem State.repeatInstr_dpbAddr (s : State) : (s.repeatInstr).dpbAddr = s.dpbAddr := by simp [State.repeatInstr]
@[simp] theorem State.repeatInstr_alvAddr (s : State) : (s.repeatInstr).alvAddr = s.alvAddr := by simp [State.repeatInstr]

/-! ### `swapBanks` -/

@[simp] theorem State.swapBanks_a (s : State) : (s.swapBanks).a = s.a := rfl
@[simp] theorem State.swapBanks_f (s : State) : (s.swapBanks).f = s.f := rfl
@[simp] theorem State.swapBanks_b (s : State) : (s.swapBanks).b = s.b' := rfl
@[simp] theorem State.swapBanks_c (s : State) : (s.swapBanks).c = s.c' := rfl
@[simp] theorem State.swapBanks_d (s : State) : (s.swapBanks).d = s.d' := rfl
@[simp] theorem State.swapBanks_e (s : State) : (s.swapBanks).e = s.e' := rfl
@[simp] theorem State.swapBanks_h (s : State) : (s.swapBanks).h = s.h' := rfl
@[simp] theorem State.swapBanks_l (s : State) : (s.swapBanks).l = s.l' := rfl
@[simp] theorem State.swapBanks_a' (s : State) : (s.swapBanks).a' = s.a' := rfl
@[simp] theorem State.swapBanks_f' (s : State) : (s.swapBanks).f' = s.f' := rfl
@[simp] theorem State.swapBanks_b' (s : State) : (s.swapBanks).b' = s.b := rfl
@[simp] theorem State.swapBanks_c' (s : State) : (s.swapBanks).c' = s.c := rfl
@[simp] theorem State.swapBanks_d' (s : State) : (s.swapBanks).d' = s.d := rfl
@[simp] theorem State.swapBanks_e' (s : State) : (s.swapBanks).e' = s.e := rfl
@[simp] theorem State.swapBanks_h' (s : State) : (s.swapBanks).h' = s.h := rfl
@[simp] theorem State.swapBanks_l' (s : State) : (s.swapBanks).l' = s.l := rfl
@[simp] theorem State.swapBanks_ix (s : State) : (s.swapBanks).ix = s.ix := rfl
@[simp] theorem State.swapBanks_iy (s : State) : (s.swapBanks).iy = s.iy := rfl
@[simp] theorem State.swapBanks_sp (s : State) : (s.swapBanks).sp = s.sp := rfl
@[simp] theorem State.swapBanks_pc (s : State) : (s.swapBanks).pc = s.pc := rfl
@[simp] theorem State.swapBanks_i (s : State) : (s.swapBanks).i = s.i := rfl
@[simp] theorem State.swapBanks_r (s : State) : (s.swapBanks).r = s.r := rfl
@[simp] theorem State.swapBanks_iff (s : State) : (s.swapBanks).iff = s.iff := rfl
@[simp] theorem State.swapBanks_latch (s : State) : (s.swapBanks).latch = s.latch := rfl
@[simp] theorem State.swapBanks_terminate (s : State) : (s.swapBanks).terminate = s.terminate := rfl
@[simp] theorem State.swapBanks_termReason (s : State) : (s.swapBanks).termReason = s.termReason := rfl
@[simp] theorem State.swapBanks_mem (s : State) : (s.swapBanks).mem = s.mem := rfl
@[simp] theorem State.swapBanks_plane (s : State) : (s.swapBanks).plane = s.plane := rfl
@[simp] theorem State.swapBanks_signal (s : State) : (s.swapBanks).signal = s.signal := rfl
@[simp] theorem State.swapBanks_env (s : State) : (s.swapBanks).env = s.env := rfl
@[simp] theorem State.swapBanks_dma (s : State) : (s.swapBanks).dma = s.dma := rfl
@[simp] theorem State.swapBanks_dpbAddr (s : State) : (s.swapBanks).dpbAddr = s.dpbAddr := rfl
@[simp] theorem State.swapBanks_alvAddr (s : State) : (s.swapBanks).alvAddr = s.alvAddr := rfl

/-! ### `latchEa` -/

@[simp] theorem State.latchEa_a (s : State) (xy : Index) (d : Byte) : (s.latchEa xy d).a = s.a := rfl
@[simp] theorem State.latchEa_f (s : State) (xy : Index) (d : Byte) : (s.latchEa xy d).f = s.f := rfl
@[simp] theorem State.latchEa_b (s : State) (xy : Index) (d : Byte) : (s.latchEa xy d).b = s.b := rfl
@[simp] theorem State.latchEa_c (s : State) (xy : Index) (d : Byte) : (s.latchEa xy d).c = s.c := rfl
@[simp] theorem State.latchEa_d (s : State) (xy : Index) (d : Byte) : (s.latchEa xy d).d = s.d := rfl
@[simp] theorem State.latchEa_e (s : State) (xy : Index) (d : Byte) : (s.latchEa xy d).e = s.e := rfl
@[simp] theorem State.latchEa_h (s : State) (xy : Index) (d : Byte) : (s.latchEa xy d).h = s.h := rfl
@[simp] theorem State.latchEa_l (s : State) (xy : Index) (d : Byte) : (s.latchEa xy d).l = s.l := rfl
@[simp] theorem State.latchEa_a' (s : State) (xy : Index) (d : Byte) : (s.latchEa xy d).a' = s.a' := rfl
@[simp] theorem State.latchEa_f' (s : State) (xy : Index) (d : Byte) : (s.latchEa xy d).f' = s.f' := rfl
@[simp] theorem State.latchEa_b' (s : State) (xy : Index) (d : Byte) : (s.latchEa xy d).b' = s.b' := rfl
@[simp] theorem State.latchEa_c' (s : State) (xy : Index) (d : Byte) : (s.latchEa xy d).c' = s.c' := rfl
@[simp] theorem State.latchEa_d' (s : State) (xy : Index) (d : Byte) : (s.latchEa xy d).d' = s.d' := rfl
@[simp] theorem State.latchEa_e' (s : State) (xy : Index) (d : Byte) : (s.latchEa xy d).e' = s.e' := rfl
@[simp] theorem State.latchEa_h' (s : State) (xy : Index) (d : Byte) : (s.latchEa xy d).h' = s.h' := rfl
@[simp] theorem State.latchEa_l' (s : State) (xy : Index) (d : Byte) : (s.latchEa xy d).l' = s.l' := rfl
@[simp] theorem State.latchEa_ix (s : State) (xy : Index) (d : Byte) : (s.latchEa xy d).ix = s.ix := rfl
@[simp] theorem State.latchEa_iy (s : State) (xy : Index) (d : Byte) : (s.latchEa xy d).iy = s.iy := rfl
@[simp] theorem State.latchEa_sp (s : State) (xy : Index) (d : Byte) : (s.latchEa xy d).sp = s.sp := rfl
@[simp] theorem State.latchEa_pc (s : State) (xy : Index) (d : Byte) : (s.latchEa xy d).pc = s.pc := rfl
@[simp] theorem State.latchEa_i (s : State) (xy : Index) (d : Byte) : (s.latchEa xy d).i = s.i := rfl
@[simp] theorem State.latchEa_r (s : State) (xy : Index) (d : Byte) : (s.latchEa xy d).r = s.r := rfl
@[simp] theorem State.latchEa_iff (s : State) (xy : Index) (d : Byte) : (s.latchEa xy d).iff = s.iff := rfl
@[simp] theorem State.latchEa_latch (s : State) (xy : Index) (d : Byte) : (s.latchEa xy d).latch = s.ea xy d := rfl
@[simp] theorem State.latchEa_terminate (s : State) (xy : Index) (d : Byte) : (s.latchEa xy d).terminate = s.terminate := rfl
@[simp] theorem State.latchEa_termReason (s : State) (xy : Index) (d : Byte) : (s.latchEa xy d).termReason = s.termReason := rfl
@[simp] theorem State.latchEa_mem (s : State) (xy : Index) (d : Byte) : (s.latchEa xy d).mem = s.mem := rfl
@[simp] theorem State.latchEa_plane (s : State) (xy : Index) (d : Byte) : (s.latchEa xy d).plane = s.plane := rfl
@[simp] theorem State.latchEa_signal (s : State) (xy : Index) (d : Byte) : (s.latchEa xy d).signal = s.signal := rfl
@[simp] theorem State.latchEa_env (s : State) (xy : Index) (d : Byte) : (s.latchEa xy d).env = s.env := rfl
@[simp] theorem State.latchEa_dma (s : State) (xy : Index) (d : Byte) : (s.latchEa xy d).dma = s.dma := rfl
@[simp] theorem State.latchEa_dpbAddr (s : State) (xy : Index) (d : Byte) : (s.latchEa xy d).dpbAddr = s.dpbAddr := rfl
@[simp] theorem State.latchEa_alvAddr (s : State) (xy : Index) (d : Byte) : (s.latchEa xy d).alvAddr = s.alvAddr := rfl

/-! ### `stopWith` -/

@[simp] theorem State.stopWith_a (s : State) (t : TermReason) : (s.stopWith t).a = s.a := rfl
@[simp] theorem State.stopWith_f (s : State) (t : TermReason) : (s.stopWith t).f = s.f := rfl
@[simp] theorem State.stopWith_b (s : State) (t : TermReason) : (s.stopWith t).b = s.b := rfl
@[simp] theorem State.stopWith_c (s : State) (t : TermReason) : (s.stopWith t).c = s.c := rfl
@[simp] theorem State.stopWith_d (s : State) (t : TermReason) : (s.stopWith t).d = s.d := rfl
@[simp] theorem State.stopWith_e (s : State) (t : TermReason) : (s.stopWith t).e = s.e := rfl
@[simp] theorem State.stopWith_h (s : State) (t : TermReason) : (s.stopWith t).h = s.h := rfl
@[simp] theorem State.stopWith_l (s : State) (t : TermReason) : (s.stopWith t).l = s.l := rfl
@[simp] theorem State.stopWith_a' (s : State) (t : TermReason) : (s.stopWith t).a' = s.a' := rfl
@[simp] theorem State.stopWith_f' (s : State) (t : TermReason) : (s.stopWith t).f' = s.f' := rfl
@[simp] theorem State.stopWith_b' (s : State) (t : TermReason) : (s.stopWith t).b' = s.b' := rfl
@[simp] theorem State.stopWith_c' (s : State) (t : TermReason) : (s.stopWith t).c' = s.c' := rfl
@[simp] theorem State.stopWith_d' (s : State) (t : TermReason) : (s.stopWith t).d' = s.d' := rfl
@[simp] theorem State.stopWith_e' (s : State) (t : TermReason) : (s.stopWith t).e' = s.e' := rfl
@[simp] theorem State.stopWith_h' (s : State) (t : TermReason) : (s.stopWith t).h' = s.h' := rfl
@[simp] theorem State.stopWith_l' (s : State) (t : TermReason) : (s.stopWith t).l' = s.l' := rfl
@[simp] theorem State.stopWith_ix (s : State) (t : TermReason) : (s.stopWith t).ix = s.ix := rfl
@[simp] theorem State.stopWith_iy (s : State) (t : TermReason) : (s.stopWith t).iy = s.iy := rfl
@[simp] theorem State.stopWith_sp (s : State) (t : TermReason) : (s.stopWith t).sp = s.sp := rfl
@[simp] theorem State.stopWith_pc (s : State) (t : TermReason) : (s.stopWith t).pc = s.pc := rfl
@[simp] theorem State.stopWith_i (s : State) (t : TermReason) : (s.stopWith t).i = s.i := rfl
@[simp] theorem State.stopWith_r (s : State) (t : TermReason) : (s.stopWith t).r = s.r := rfl
@[simp] theorem State.stopWith_iff (s : State) (t : TermReason) : (s.stopWith t).iff = s.iff := rfl
@[simp] theorem State.stopWith_latch (s : State) (t : TermReason) : (s.stopWith t).latch = s.latch := rfl
@[simp] theorem State.stopWith_terminate (s : State) (t : TermReason) : (s.stopWith t).terminate = true := rfl
@[simp] theorem State.stopWith_termReason (s : State) (t : TermReason) : (s.stopWith t).termReason = t := rfl
@[simp] theorem State.stopWith_mem (s : State) (t : TermReason) : (s.stopWith t).mem = s.mem := rfl
@[simp] theorem State.stopWith_plane (s : State) (t : TermReason) : (s.stopWith t).plane = s.plane := rfl
@[simp] theorem State.stopWith_signal (s : State) (t : TermReason) : (s.stopWith t).signal = s.signal := rfl
@[simp] theorem State.stopWith_env (s : State) (t : TermReason) : (s.stopWith t).env = s.env := rfl
@[simp] theorem State.stopWith_dma (s : State) (t : TermReason) : (s.stopWith t).dma = s.dma := rfl
@[simp] theorem State.stopWith_dpbAddr (s : State) (t : TermReason) : (s.stopWith t).dpbAddr = s.dpbAddr := rfl
@[simp] theorem State.stopWith_alvAddr (s : State) (t : TermReason) : (s.stopWith t).alvAddr = s.alvAddr := rfl

/-! ### `tick` -/

@[simp] theorem State.tick_a (s : State) : (s.tick).a = s.a := rfl
@[simp] theorem State.tick_f (s : State) : (s.tick).f = s.f := rfl
@[simp] theorem State.tick_b (s : State) : (s.tick).b = s.b := rfl
@[simp] theorem State.tick_c (s : State) : (s.tick).c = s.c := rfl
@[simp] theorem State.tick_d (s : State) : (s.tick).d = s.d := rfl
@[simp] theorem State.tick_e (s : State) : (s.tick).e = s.e := rfl
@[simp] theorem State.tick_h (s : State) : (s.tick).h = s.h := rfl
@[simp] theorem State.tick_l (s : State) : (s.tick).l = s.l := rfl
@[simp] theorem State.tick_a' (s : State) : (s.tick).a' = s.a' := rfl
@[simp] theorem State.tick_f' (s : State) : (s.tick).f' = s.f' := rfl
@[simp] theorem State.tick_b' (s : State) : (s.tick).b' = s.b' := rfl
@[simp] theorem State.tick_c' (s : State) : (s.tick).c' = s.c' := rfl
@[simp] theorem State.tick_d' (s : State) : (s.tick).d' = s.d' := rfl
@[simp] theorem State.tick_e' (s : State) : (s.tick).e' = s.e' := rfl
@[simp] theorem State.tick_h' (s : State) : (s.tick).h' = s.h' := rfl
@[simp] theorem State.tick_l' (s : State) : (s.tick).l' = s.l' := rfl
@[simp] theorem State.tick_ix (s : State) : (s.tick).ix = s.ix := rfl
@[simp] theorem State.tick_iy (s : State) : (s.tick).iy = s.iy := rfl
@[simp] theorem State.tick_sp (s : State) : (s.tick).sp = s.sp := rfl
@[simp] theorem State.tick_pc (s : State) : (s.tick).pc = s.pc := rfl
@[simp] theorem State.tick_i (s : State) : (s.tick).i = s.i := rfl
@[simp] theorem State.tick_r (s : State) : (s.tick).r = s.r := rfl
@[simp] theorem State.tick_iff (s : State) : (s.tick).iff = s.iff := rfl
@[simp] theorem State.tick_latch (s : State) : (s.tick).latch = s.latch := rfl
@[simp] theorem State.tick_terminate (s : State) : (s.tick).terminate = s.terminate := rfl
@[simp] theorem State.tick_termReason (s : State) : (s.tick).termReason = s.termReason := rfl
@[simp] theorem State.tick_mem (s : State) : (s.tick).mem = s.mem := rfl
@[simp] theorem State.tick_plane (s : State) : (s.tick).plane = s.plane := rfl
@[simp] theorem State.tick_signal (s : State) : (s.tick).signal = s.signal.map (· - 1) := rfl
@[simp] theorem State.tick_env (s : State) : (s.tick).env = s.env := rfl
@[simp] theorem State.tick_dma (s : State) : (s.tick).dma = s.dma := rfl
@[simp] theorem State.tick_dpbAddr (s : State) : (s.tick).dpbAddr = s.dpbAddr := rfl
@[simp] theorem State.tick_alvAddr (s : State) : (s.tick).alvAddr = s.alvAddr := rfl

/-! ### `advance` -/

@[simp] theorem State.advance_a (s : State) (e : Elem) : (s.advance e).a = s.a := rfl
@[simp] theorem State.advance_f (s : State) (e : Elem) : (s.advance e).f = s.f := rfl
@[simp] theorem State.advance_b (s : State) (e : Elem) : (s.advance e).b = s.b := rfl
@[simp] theorem State.advance_c (s : State) (e : Elem) : (s.advance e).c = s.c := rfl
@[simp] theorem State.advance_d (s : State) (e : Elem) : (s.advance e).d = s.d := rfl
@[simp] theorem State.advance_e (s : State) (e : Elem) : (s.advance e).e = s.e := rfl
@[simp] theorem State.advance_h (s : State) (e : Elem) : (s.advance e).h = s.h := rfl
@[simp] theorem State.advance_l (s : State) (e : Elem) : (s.advance e).l = s.l := rfl
@[simp] theorem State.advance_a' (s : State) (e : Elem) : (s.advance e).a' = s.a' := rfl
@[simp] theorem State.advance_f' (s : State) (e : Elem) : (s.advance e).f' = s.f' := rfl
@[simp] theorem State.advance_b' (s : State) (e : Elem) : (s.advance e).b' = s.b' := rfl
@[simp] theorem State.advance_c' (s : State) (e : Elem) : (s.advance e).c' = s.c' := rfl
@[simp] theorem State.advance_d' (s : State) (e : Elem) : (s.advance e).d' = s.d' := rfl
@[simp] theorem State.advance_e' (s : State) (e : Elem) : (s.advance e).e' = s.e' := rfl
@[simp] theorem State.advance_h' (s : State) (e : Elem) : (s.advance e).h' = s.h' := rfl
@[simp] theorem State.advance_l' (s : State) (e : Elem) : (s.advance e).l' = s.l' := rfl
@[simp] theorem State.advance_ix (s : State) (e : Elem) : (s.advance e).ix = s.ix := rfl
@[simp] theorem State.advance_iy (s : State) (e : Elem) : (s.advance e).iy = s.iy := rfl
@[simp] theorem State.advance_sp (s : State) (e : Elem) : (s.advance e).sp = s.sp := rfl
@[simp] theorem State.advance_pc (s : State) (e : Elem) : (s.advance e).pc = s.pc + BitVec.ofNat 16 e.len := rfl
@[simp] theorem State.advance_i (s : State) (e : Elem) : (s.advance e).i = s.i := rfl
@[simp] theorem State.advance_r (s : State) (e : Elem) : (s.advance e).r = if s.plane.isM1 then incR s.r else s.r := rfl
@[simp] theorem State.advance_iff (s : State) (e : Elem) : (s.advance e).iff = s.iff := rfl
@[simp] theorem State.advance_latch (s : State) (e : Elem) : (s.advance e).latch = s.latch := rfl
@[simp] theorem State.advance_terminate (s : State) (e : Elem) : (s.advance e).terminate = s.terminate := rfl
@[simp] theorem State.advance_termReason (s : State) (e : Elem) : (s.advance e).termReason = s.termReason := rfl
@[simp] theorem State.advance_mem (s : State) (e : Elem) : (s.advance e).mem = s.mem := rfl
@[simp] theorem State.advance_plane (s : State) (e : Elem) : (s.advance e).plane = .base := rfl
@[simp] theorem State.advance_signal (s : State) (e : Elem) : (s.advance e).signal = s.signal := rfl
@[simp] theorem State.advance_env (s : State) (e : Elem) : (s.advance e).env = s.env := rfl
@[simp] theorem State.advance_dma (s : State) (e : Elem) : (s.advance e).dma = s.dma := rfl
@[simp] theorem State.advance_dpbAddr (s : State) (e : Elem) : (s.advance e).dpbAddr = s.dpbAddr := rfl
@[simp] theorem State.advance_alvAddr (s : State) (e : Elem) : (s.advance e).alvAddr = s.alvAddr := rfl

/-! ### `setReg8` -/

@[simp] theorem State.setReg8_f (s : State) (q : Reg8) (v : Byte) : (s.setReg8 q v).f = s.f := by cases q <;> rfl
@[simp] theorem State.setReg8_a' (s : State) (q : Reg8) (v : Byte) : (s.setReg8 q v).a' = s.a' := by cases q <;> rfl
@[simp] theorem State.setReg8_f' (s : State) (q : Reg8) (v : Byte) : (s.setReg8 q v).f' = s.f' := by cases q <;> rfl
@[simp] theorem State.setReg8_b' (s : State) (q : Reg8) (v : Byte) : (s.setReg8 q v).b' = s.b' := by cases q <;> rfl
@[simp] theorem State.setReg8_c' (s : State) (q : Reg8) (v : Byte) : (s.setReg8 q v).c' = s.c' := by cases q <;> rfl
@[simp] theorem State.setReg8_d' (s : State) (q : Reg8) (v : Byte) : (s.setReg8 q v).d' = s.d' := by cases q <;> rfl
@[simp] theorem State.setReg8_e' (s : State) (q : Reg8) (v : Byte) : (s.setReg8 q v).e' = s.e' := by cases q <;> rfl
@[simp] theorem State.setReg8_h' (s : State) (q : Reg8) (v : Byte) : (s.setReg8 q v).h' = s.h' := by cases q <;> rfl
@[simp] theorem State.setReg8_l' (s : State) (q : Reg8) (v : Byte) : (s.setReg8 q v).l' = s.l' := by cases q <;> rfl
@[simp] theorem State.setReg8_ix (s : State) (q : Reg8) (v : Byte) : (s.setReg8 q v).ix = s.ix := by cases q <;> rfl
@[simp] theorem State.setReg8_iy (s : State) (q : Reg8) (v : Byte) : (s.setReg8 q v).iy = s.iy := by cases q <;> rfl
@[simp] theorem State.setReg8_sp (s : State) (q : Reg8) (v : Byte) : (s.setReg8 q v).sp = s.sp := by cases q <;> rfl
@[simp] theorem State.setReg8_pc (s : State) (q : Reg8) (v : Byte) : (s.setReg8 q v).pc = s.pc := by cases q <;> rfl
@[simp] theorem State.setReg8_i (s : State) (q : Reg8) (v : Byte) : (s.setReg8 q v).i = s.i := by cases q <;> rfl
@[simp] theorem State.setReg8_r (s : State) (q : Reg8) (v : Byte) : (s.setReg8 q v).r = s.r := by cases q <;> rfl
@[simp] theorem State.setReg8_iff (s : State) (q : Reg8) (v : Byte) : (s.setReg8 q v).iff = s.iff := by cases q <;> rfl
@[simp] theorem State.setReg8_latch (s : State) (q : Reg8) (v : Byte) : (s.setReg8 q v).latch = s.latch := by cases q <;> rfl
@[simp] theorem State.setReg8_terminate (s : State) (q : Reg8) (v : Byte) : (s.setReg8 q v).terminate = s.terminate := by cases q <;> rfl
@[simp] theorem State.setReg8_termReason (s : State) (q : Reg8) (v : Byte) : (s.setReg8 q v).termReason = s.termReason := by cases q <;> rfl
@[simp] theorem State.setReg8_mem (s : State) (q : Reg8) (v : Byte) : (s.setReg8 q v).mem = s.mem := by cases q <;> rfl
@[simp] theorem State.setReg8_plane (s : State) (q : Reg8) (v : Byte) : (s.setReg8 q v).plane = s.plane := by cases q <;> rfl
@[simp] theorem State.setReg8_signal (s : State) (q : Reg8) (v : Byte) : (s.setReg8 q v).signal = s.signal := by cases q <;> rfl
@[simp] theorem State.setReg8_env (s : State) (q : Reg8) (v : Byte) : (s.setReg8 q v).env = s.env := by cases q <;> rfl
@[simp] theorem State.setReg8_dma (s : State) (q : Reg8) (v : Byte) : (s.setReg8 q v).dma = s.dma := by cases q <;> rfl
@[simp] theorem State.setReg8_dpbAddr (s : State) (q : Reg8) (v : Byte) : (s.setReg8 q v).dpbAddr = s.dpbAddr := by cases q <;> rfl
@[simp] theorem State.setReg8_alvAddr (s : State) (q : Reg8) (v : Byte) : (s.setReg8 q v).alvAddr = s.alvAddr := by cases q <;> rfl

/-! ### `setPair` -/

@[simp] theorem State.setPair_a (s : State) (p : Pair) (w : Word) : (s.setPair p w).a = s.a := by cases p <;> rfl
@[simp] theorem State.setPair_f (s : State) (p : Pair) (w : Word) : (s.setPair p w).f = s.f := by cases p <;> rfl
@[simp] theorem State.setPair_a' (s : State) (p : Pair) (w : Word) : (s.setPair p w).a' = s.a' := by cases p <;> rfl
@[simp] theorem State.setPair_f' (s : State) (p : Pair) (w : Word) : (s.setPair p w).f' = s.f' := by cases p <;> rfl
@[simp] theorem State.setPair_b' (s : State) (p : Pair) (w : Word) : (s.setPair p w).b' = s.b' := by cases p <;> rfl
@[simp] theorem State.setPair_c' (s : State) (p : Pair) (w : Word) : (s.setPair p w).c' = s.c' := by cases p <;> rfl
@[simp] theorem State.setPair_d' (s : State) (p : Pair) (w : Word) : (s.setPair p w).d' = s.d' := by cases p <;> rfl
@[simp] theorem State.setPair_e' (s : State) (p : Pair) (w : Word) : (s.setPair p w).e' = s.e' := by cases p <;> rfl
@[simp] theorem State.setPair_h' (s : State) (p : Pair) (w : Word) : (s.setPair p w).h' = s.h' := by cases p <;> rfl
@[simp] theorem State.setPair_l' (s : State) (p : Pair) (w : Word) : (s.setPair p w).l' = s.l' := by cases p <;> rfl
@[simp] theorem State.setPair_ix (s : State) (p : Pair) (w : Word) : (s.setPair p w).ix = s.ix := by cases p <;> rfl
@[simp] theorem State.setPair_iy (s : State) (p : Pair) (w : Word) : (s.setPair p w).iy = s.iy := by cases p <;> rfl
@[simp] theorem State.setPair_pc (s : State) (p : Pair) (w : Word) : (s.setPair p w).pc = s.pc := by cases p <;> rfl
@[simp] theorem State.setPair_i (s : State) (p : Pair) (w : Word) : (s.setPair p w).i = s.i := by cases p <;> rfl
@[simp] theorem State.setPair_r (s : State) (p : Pair) (w : Word) : (s.setPair p w).r = s.r := by cases p <;> rfl
@[simp] theorem State.setPair_iff (s : State) (p : Pair) (w : Word) : (s.setPair p w).iff = s.iff := by cases p <;> rfl
@[simp] theorem State.setPair_latch (s : State) (p : Pair) (w : Word) : (s.setPair p w).latch = s.latch := by cases p <;> rfl
@[simp] theorem State.setPair_terminate (s : State) (p : Pair) (w : Word) : (s.setPair p w).terminate = s.terminate := by cases p <;> rfl
@[simp] theorem State.setPair_termReason (s : State) (p : Pair) (w : Word) : (s.setPair p w).termReason = s.termReason := by cases p <;> rfl
@[simp] theorem State.setPair_mem (s : State) (p : Pair) (w : Word) : (s.setPair p w).mem = s.mem := by cases p <;> rfl
@[simp] theorem State.setPair_plane (s : State) (p : Pair) (w : Word) : (s.setPair p w).plane = s.plane := by cases p <;> rfl
@[simp] theorem State.setPair_signal (s : State) (p : Pair) (w : Word) : (s.setPair p w).signal = s.signal := by cases p <;> rfl
@[simp] theorem State.setPair_env (s : State) (p : Pair) (w : Word) : (s.setPair p w).env = s.env := by cases p <;> rfl
@[simp] theorem State.setPair_dma (s : State) (p : Pair) (w : Word) : (s.setPair p w).dma = s.dma := by cases p <;> rfl
@[simp] theorem State.setPair_dpbAddr (s : State) (p : Pair) (w : Word) : (s.setPair p w).dpbAddr = s.dpbAddr := by cases p <;> rfl
@[simp] theorem State.setPair_alvAddr (s : State) (p : Pair) (w : Word) : (s.setPair p w).alvAddr = s.alvAddr := by cases p <;> rfl

/-! ### `setStackPair` -/

@[simp] theorem State.setStackPair_a' (s : State) (p : StackPair) (w : Word) : (s.setStackPair p w).a' = s.a' := by cases p <;> rfl
@[simp] theorem State.setStackPair_f' (s : State) (p : StackPair) (w : Word) : (s.setStackPair p w).f' = s.f' := by cases p <;> rfl
@[simp] theorem State.setStackPair_b' (s : State) (p : StackPair) (w : Word) : (s.setStackPair p w).b' = s.b' := by cases p <;> rfl
@[simp] theorem State.setStackPair_c' (s : State) (p : StackPair) (w : Word) : (s.setStackPair p w).c' = s.c' := by cases p <;> rfl
@[simp] theorem State.setStackPair_d' (s : State) (p : StackPair) (w : Word) : (s.setStackPair p w).d' = s.d' := by cases p <;> rfl
@[simp] theorem State.setStackPair_e' (s : State) (p : StackPair) (w : Word) : (s.setStackPair p w).e' = s.e' := by cases p <;> rfl
@[simp] theorem State.setStackPair_h' (s : State) (p : StackPair) (w : Word) : (s.setStackPair p w).h' = s.h' := by cases p <;> rfl
@[simp] theorem State.setStackPair_l' (s : State) (p : StackPair) (w : Word) : (s.setStackPair p w).l' = s.l' := by cases p <;> rfl
@[simp] theorem State.setStackPair_ix (s : State) (p : StackPair) (w : Word) : (s.setStackPair p w).ix = s.ix := by cases p <;> rfl
@[simp] theorem State.setStackPair_iy (s : State) (p : StackPair) (w : Word) : (s.setStackPair p w).iy = s.iy := by cases p <;> rfl
@[simp] theorem State.setStackPair_sp (s : State) (p : StackPair) (w : Word) : (s.setStackPair p w).sp = s.sp := by cases p <;> rfl
@[simp] theorem State.setStackPair_pc (s : State) (p : StackPair) (w : Word) : (s.setStackPair p w).pc = s.pc := by cases p <;> rfl
@[simp] theorem State.setStackPair_i (s : State) (p : StackPair) (w : Word) : (s.setStackPair p w).i = s.i := by cases p <;> rfl
@[simp] theorem State.setStackPair_r (s : State) (p : StackPair) (w : Word) : (s.setStackPair p w).r = s.r := by cases p <;> rfl
@[simp] theorem State.setStackPair_iff (s : State) (p : StackPair) (w : Word) : (s.setStackPair p w).iff = s.iff := by cases p <;> rfl
@[simp] theorem State.setStackPair_latch (s : State) (p : StackPair) (w : Word) : (s.setStackPair p w).latch = s.latch := by cases p <;> rfl
@[simp] theorem State.setStackPair_terminate (s : State) (p : StackPair) (w : Word) : (s.setStackPair p w).terminate = s.terminate := by cases p <;> rfl
@[simp] theorem State.setStackPair_termReason (s : State) (p : StackPair) (w : Word) : (s.setStackPair p w).termReason = s.termReason := by cases p <;> rfl
@[simp] theorem State.setStackPair_mem (s : State) (p : StackPair) (w : Word) : (s.setStackPair p w).mem = s.mem := by cases p <;> rfl
@[simp] theorem State.setStackPair_plane (s : State) (p : StackPair) (w : Word) : (s.setStackPair p w).plane = s.plane := by cases p <;> rfl
@[simp] theorem State.setStackPair_signal (s : State) (p : StackPair) (w : Word) : (s.setStackPair p w).signal = s.signal := by cases p <;> rfl
@[simp] theorem State.setStackPair_env (s : State) (p : StackPair) (w : Word) : (s.setStackPair p w).env = s.env := by cases p <;> rfl
@[simp] theorem State.setStackPair_dma (s : State) (p : StackPair) (w : Word) : (s.setStackPair p w).dma = s.dma := by cases p <;> rfl
@[simp] theorem State.setStackPair_dpbAddr (s : State) (p : StackPair) (w : Word) : (s.setStackPair p w).dpbAddr = s.dpbAddr := by cases p <;> rfl
@[simp] theorem State.setStackPair_alvAddr (s : State) (p : StackPair) (w : Word) : (s.setStackPair p w).alvAddr = s.alvAddr := by cases p <;> rfl

/-! ### `setIndex` -/

@[simp] theorem State.setIndex_a (s : State) (xy : Index) (w : Word) : (s.setIndex xy w).a = s.a := by cases xy <;> rfl
@[simp] theorem State.setIndex_f (s : State) (xy : Index) (w : Word) : (s.setIndex xy w).f = s.f := by cases xy <;> rfl
@[simp] theorem State.setIndex_b (s : State) (xy : Index) (w : Word) : (s.setIndex xy w).b = s.b := by cases xy <;> rfl
@[simp] theorem State.setIndex_c (s : State) (xy : Index) (w : Word) : (s.setIndex xy w).c = s.c := by cases xy <;> rfl
@[simp] theorem State.setIndex_d (s : State) (xy : Index) (w : Word) : (s.setIndex xy w).d = s.d := by cases xy <;> rfl
@[simp] theorem State.setIndex_e (s : State) (xy : Index) (w : Word) : (s.setIndex xy w).e = s.e := by cases xy <;> rfl
@[simp] theorem State.setIndex_h (s : State) (xy : Index) (w : Word) : (s.setIndex xy w).h = s.h := by cases xy <;> rfl
@[simp] theorem State.setIndex_l (s : State) (xy : Index) (w : Word) : (s.setIndex xy w).l = s.l := by cases xy <;> rfl
@[simp] theorem State.setIndex_a' (s : State) (xy : Index) (w : Word) : (s.setIndex xy w).a' = s.a' := by cases xy <;> rfl
@[simp] theorem State.setIndex_f' (s : State) (xy : Index) (w : Word) : (s.setIndex xy w).f' = s.f' := by cases xy <;> rfl
@[simp] theorem State.setIndex_b' (s : State) (xy : Index) (w : Word) : (s.setIndex xy w).b' = s.b' := by cases xy <;> rfl
@[simp] theorem State.setIndex_c' (s : State) (xy : Index) (w : Word) : (s.setIndex xy w).c' = s.c' := by cases xy <;> rfl
@[simp] theorem State.setIndex_d' (s : State) (xy : Index) (w : Word) : (s.setIndex xy w).d' = s.d' := by cases xy <;> rfl
@[simp] theorem State.setIndex_e' (s : State) (xy : Index) (w : Word) : (s.setIndex xy w).e' = s.e' := by cases xy <;> rfl
@[simp] theorem State.setIndex_h' (s : State) (xy : Index) (w : Word) : (s.setIndex xy w).h' = s.h' := by cases xy <;> rfl
@[simp] theorem State.setIndex_l' (s : State) (xy : Index) (w : Word) : (s.setIndex xy w).l' = s.l' := by cases xy <;> rfl
@[simp] theorem State.setIndex_sp (s : State) (xy : Index) (w : Word) : (s.setIndex xy w).sp = s.sp := by cases xy <;> rfl
@[simp] theorem State.setIndex_pc (s : State) (xy : Index) (w : Word) : (s.setIndex xy w).pc = s.pc := by cases xy <;> rfl
@[simp] theorem State.setIndex_i (s : State) (xy : Index) (w : Word) : (s.setIndex xy w).i = s.i := by cases xy <;> rfl
@[simp] theorem State.setIndex_r (s : State) (xy : Index) (w : Word) : (s.setIndex xy w).r = s.r := by cases xy <;> rfl
@[simp] theorem State.setIndex_iff (s : State) (xy : Index) (w : Word) : (s.setIndex xy w).iff = s.iff := by cases xy <;> rfl
@[simp] theorem State.setIndex_latch (s : State) (xy : Index) (w : Word) : (s.setIndex xy w).latch = s.latch := by cases xy <;> rfl
@[simp] theorem State.setIndex_terminate (s : State) (xy : Index) (w : Word) : (s.setIndex xy w).terminate = s.terminate := by cases xy <;> rfl
@[simp] theorem State.setIndex_termReason (s : State) (xy : Index) (w : Word) : (s.setIndex xy w).termReason = s.termReason := by cases xy <;> rfl
@[simp] theorem State.setIndex_mem (s : State) (xy : Index) (w : Word) : (s.setIndex xy w).mem = s.mem := by cases xy <;> rfl
@[simp] theorem State.setIndex_plane (s : State) (xy : Index) (w : Word) : (s.setIndex xy w).plane = s.plane := by cases xy <;> rfl
@[simp] theorem State.setIndex_signal (s : State) (xy : Index) (w : Word) : (s.setIndex xy w).signal = s.signal := by cases xy <;> rfl
@[simp] theorem State.setIndex_env (s : State) (xy : Index) (w : Word) : (s.setIndex xy w).env = s.env := by cases xy <;> rfl
@[simp] theorem State.setIndex_dma (s : State) (xy : Index) (w : Word) : (s.setIndex xy w).dma = s.dma := by cases xy <;> rfl
@[simp] theorem State.setIndex_dpbAddr (s : State) (xy : Index) (w : Word) : (s.setIndex xy w).dpbAddr = s.dpbAddr := by cases xy <;> rfl
@[simp] theorem State.setIndex_alvAddr (s : State) (xy : Index) (w : Word) : (s.setIndex xy w).alvAddr = s.alvAddr := by cases xy <;> rfl

/-! ### `setHalf` -/

@[simp] theorem State.setHalf_a (s : State) (xy : Index) (h : Half) (v : Byte) : (s.setHalf xy h v).a = s.a := by cases h <;> simp [State.setHalf]
@[simp] theorem State.setHalf_f (s : State) (xy : Index) (h : Half) (v : Byte) : (s.setHalf xy h v).f = s.f := by cases h <;> simp [State.setHalf]
@[simp] theorem State.setHalf_b (s : State) (xy : Index) (h : Half) (v : Byte) : (s.setHalf xy h v).b = s.b := by cases h <;> simp [State.setHalf]
@[simp] theorem State.setHalf_c (s : State) (xy : Index) (h : Half) (v : Byte) : (s.setHalf xy h v).c = s.c := by cases h <;> simp [State.setHalf]
@[simp] theorem State.setHalf_d (s : State) (xy : Index) (h : Half) (v : Byte) : (s.setHalf xy h v).d = s.d := by cases h <;> simp [State.setHalf]
@[simp] theorem State.setHalf_e (s : State) (xy : Index) (h : Half) (v : Byte) : (s.setHalf xy h v).e = s.e := by cases h <;> simp [State.setHalf]
@[simp] theorem State.setHalf_h (s : State) (xy : Index) (h : Half) (v : Byte) : (s.setHalf xy h v).h = s.h := by cases h <;> simp [State.setHalf]
@[simp] theorem State.setHalf_l (s : State) (xy : Index) (h : Half) (v : Byte) : (s.setHalf xy h v).l = s.l := by cases h <;> simp [State.setHalf]
@[simp] theorem State.setHalf_a' (s : State) (xy : Index) (h : Half) (v : Byte) : (s.setHalf xy h v).a' = s.a' := by cases h <;> simp [State.setHalf]
@[simp] theorem State.setHalf_f' (s : State) (xy : Index) (h : Half) (v : Byte) : (s.setHalf xy h v).f' = s.f' := by cases h <;> simp [State.setHalf]
@[simp] theorem State.setHalf_b' (s : State) (xy : Index) (h : Half) (v : Byte) : (s.setHalf xy h v).b' = s.b' := by cases h <;> simp [State.setHalf]
@[simp] theorem State.setHalf_c' (s : State) (xy : Index) (h : Half) (v : Byte) : (s.setHalf xy h v).c' = s.c' := by cases h <;> simp [State.setHalf]
@[simp] theorem State.setHalf_d' (s : State) (xy : Index) (h : Half) (v : Byte) : (s.setHalf xy h v).d' = s.d' := by cases h <;> simp [State.setHalf]
@[simp] theorem State.setHalf_e' (s : State) (xy : Index) (h : Half) (v : Byte) : (s.setHalf xy h v).e' = s.e' := by cases h <;> simp [State.setHalf]
@[simp] theorem State.setHalf_h' (s : State) (xy : Index) (h : Half) (v : Byte) : (s.setHalf xy h v).h' = s.h' := by cases h <;> simp [State.setHalf]
@[simp] theorem State.setHalf_l' (s : State) (xy : Index) (h : Half) (v : Byte) : (s.setHalf xy h v).l' = s.l' := by cases h <;> simp [State.setHalf]
@[simp] theorem State.setHalf_sp (s : State) (xy : Index) (h : Half) (v : Byte) : (s.setHalf xy h v).sp = s.sp := by cases h <;> simp [State.setHalf]
@[simp] theorem State.setHalf_pc (s : State) (xy : Index) (h : Half) (v : Byte) : (s.setHalf xy h v).pc = s.pc := by cases h <;> simp [State.setHalf]
@[simp] theorem State.setHalf_i (s : State) (xy : Index) (h : Half) (v : Byte) : (s.setHalf xy h v).i = s.i := by cases h <;> simp [State.setHalf]
@[simp] theorem State.setHalf_r (s : State) (xy : Index) (h : Half) (v : Byte) : (s.setHalf xy h v).r = s.r := by cases h <;> simp [State.setHalf]
@[simp] theorem State.setHalf_iff (s : State) (xy : Index) (h : Half) (v : Byte) : (s.setHalf xy h v).iff = s.iff := by cases h <;> simp [State.setHalf]
@[simp] theorem State.setHalf_latch (s : State) (xy : Index) (h : Half) (v : Byte) : (s.setHalf xy h v).latch = s.latch := by cases h <;> simp [State.setHalf]
@[simp] theorem State.setHalf_terminate (s : State) (xy : Index) (h : Half) (v : Byte) : (s.setHalf xy h v).terminate = s.terminate := by cases h <;> simp [State.setHalf]
@[simp] theorem State.setHalf_termReason (s : State) (xy : Index) (h : Half) (v : Byte) : (s.setHalf xy h v).termReason = s.termReason := by cases h <;> simp [State.setHalf]
@[simp] theorem State.setHalf_mem (s : State) (xy : Index) (h : Half) (v : Byte) : (s.setHalf xy h v).mem = s.mem := by cases h <;> simp [State.setHalf]
@[simp] theorem State.setHalf_plane (s : State) (xy : Index) (h : Half) (v : Byte) : (s.setHalf xy h v).plane = s.plane := by cases h <;> simp [State.setHalf]
@[simp] theorem State.setHalf_signal (s : State) (xy : Index) (h : Half) (v : Byte) : (s.setHalf xy h v).signal = s.signal := by cases h <;> simp [State.setHalf]
@[simp] theorem State.setHalf_env (s : State) (xy : Index) (h : Half) (v : Byte) : (s.setHalf xy h v).env = s.env := by cases h <;> simp [State.setHalf]
@[simp] theorem State.setHalf_dma (s : State) (xy : Index) (h : Half) (v : Byte) : (s.setHalf xy h v).dma = s.dma := by cases h <;> simp [State.setHalf]
@[simp] theorem State.setHalf_dpbAddr (s : State) (xy : Index) (h : Half) (v : Byte) : (s.setHalf xy h v).dpbAddr = s.dpbAddr := by cases h <;> simp [State.setHalf]
@[simp] theorem State.setHalf_alvAddr (s : State) (xy : Index) (h : Half) (v : Byte) : (s.setHalf xy h v).alvAddr = s.alvAddr := by cases h <;> simp [State.setHalf]

/-! ### `setIdxReg8` -/

@[simp] theorem State.setIdxReg8_f (s : State) (xy : Index) (p : IdxReg8) (v : Byte) : (s.setIdxReg8 xy p v).f = s.f := by cases p <;> simp [State.setIdxReg8]
@[simp] theorem State.setIdxReg8_h (s : State) (xy : Index) (p : IdxReg8) (v : Byte) : (s.setIdxReg8 xy p v).h = s.h := by cases p <;> simp [State.setIdxReg8]
@[simp] theorem State.setIdxReg8_l (s : State) (xy : Index) (p : IdxReg8) (v : Byte) : (s.setIdxReg8 xy p v).l = s.l := by cases p <;> simp [State.setIdxReg8]
@[simp] theorem State.setIdxReg8_a' (s : State) (xy : Index) (p : IdxReg8) (v : Byte) : (s.setIdxReg8 xy p v).a' = s.a' := by cases p <;> simp [State.setIdxReg8]
@[simp] theorem State.setIdxReg8_f' (s : State) (xy : Index) (p : IdxReg8) (v : Byte) : (s.setIdxReg8 xy p v).f' = s.f' := by cases p <;> simp [State.setIdxReg8]
@[simp] theorem State.setIdxReg8_b' (s : State) (xy : Index) (p : IdxReg8) (v : Byte) : (s.setIdxReg8 xy p v).b' = s.b' := by cases p <;> simp [State.setIdxReg8]
@[simp] theorem State.setIdxReg8_c' (s : State) (xy : Index) (p : IdxReg8) (v : Byte) : (s.setIdxReg8 xy p v).c' = s.c' := by cases p <;> simp [State.setIdxReg8]
@[simp] theorem State.setIdxReg8_d' (s : State) (xy : Index) (p : IdxReg8) (v : Byte) : (s.setIdxReg8 xy p v).d' = s.d' := by cases p <;> simp [State.setIdxReg8]
@[simp] theorem State.setIdxReg8_e' (s : State) (xy : Index) (p : IdxReg8) (v : Byte) : (s.setIdxReg8 xy p v).e' = s.e' := by cases p <;> simp [State.setIdxReg8]
@[simp] theorem State.setIdxReg8_h' (s : State) (xy : Index) (p : IdxReg8) (v : Byte) : (s.setIdxReg8 xy p v).h' = s.h' := by cases p <;> simp [State.setIdxReg8]
@[simp] theorem State.setIdxReg8_l' (s : State) (xy : Index) (p : IdxReg8) (v : Byte) : (s.setIdxReg8 xy p v).l' = s.l' := by cases p <;> simp [State.setIdxReg8]
@[simp] theorem State.setIdxReg8_sp (s : State) (xy : Index) (p : IdxReg8) (v : Byte) : (s.setIdxReg8 xy p v).sp = s.sp := by cases p <;> simp [State.setIdxReg8]
@[simp] theorem State.setIdxReg8_pc (s : State) (xy : Index) (p : IdxReg8) (v : Byte) : (s.setIdxReg8 xy p v).pc = s.pc := by cases p <;> simp [State.setIdxReg8]
@[simp] theorem State.setIdxReg8_i (s : State) (xy : Index) (p : IdxReg8) (v : Byte) : (s.setIdxReg8 xy p v).i = s.i := by cases p <;> simp [State.setIdxReg8]
@[simp] theorem State.setIdxReg8_r (s : State) (xy : Index) (p : IdxReg8) (v : Byte) : (s.setIdxReg8 xy p v).r = s.r := by cases p <;> simp [State.setIdxReg8]
@[simp] theorem State.setIdxReg8_iff (s : State) (xy : Index) (p : IdxReg8) (v : Byte) : (s.setIdxReg8 xy p v).iff = s.iff := by cases p <;> simp [State.setIdxReg8]
@[simp] theorem State.setIdxReg8_latch (s : State) (xy : Index) (p : IdxReg8) (v : Byte) : (s.setIdxReg8 xy p v).latch = s.latch := by cases p <;> simp [State.setIdxReg8]
@[simp] theorem State.setIdxReg8_terminate (s : State) (xy : Index) (p : IdxReg8) (v : Byte) : (s.setIdxReg8 xy p v).terminate = s.terminate := by cases p <;> simp [State.setIdxReg8]
@[simp] theorem State.setIdxReg8_termReason (s : State) (xy : Index) (p : IdxReg8) (v : Byte) : (s.setIdxReg8 xy p v).termReason = s.termReason := by cases p <;> simp [State.setIdxReg8]
@[simp] theorem State.setIdxReg8_mem (s : State) (xy : Index) (p : IdxReg8) (v : Byte) : (s.setIdxReg8 xy p v).mem = s.mem := by cases p <;> simp [State.setIdxReg8]
@[simp] theorem State.setIdxReg8_plane (s : State) (xy : Index) (p : IdxReg8) (v : Byte) : (s.setIdxReg8 xy p v).plane = s.plane := by cases p <;> simp [State.setIdxReg8]
@[simp] theorem State.setIdxReg8_signal (s : State) (xy : Index) (p : IdxReg8) (v : Byte) : (s.setIdxReg8 xy p v).signal = s.signal := by cases p <;> simp [State.setIdxReg8]
@[simp] theorem State.setIdxReg8_env (s : State) (xy : Index) (p : IdxReg8) (v : Byte) : (s.setIdxReg8 xy p v).env = s.env := by cases p <;> simp [State.setIdxReg8]
@[simp] theorem State.setIdxReg8_dma (s : State) (xy : Index) (p : IdxReg8) (v : Byte) : (s.setIdxReg8 xy p v).dma = s.dma := by cases p <;> simp [State.setIdxReg8]
@[simp] theorem State.setIdxReg8_dpbAddr (s : State) (xy : Index) (p : IdxReg8) (v : Byte) : (s.setIdxReg8 xy p v).dpbAddr = s.dpbAddr := by cases p <;> simp [State.setIdxReg8]
@[simp] theorem State.setIdxReg8_alvAddr (s : State) (xy : Index) (p : IdxReg8) (v : Byte) : (s.setIdxReg8 xy p v).alvAddr = s.alvAddr := by cases p <;> simp [State.setIdxReg8]

/-! ### `locate` -/

@[simp] theorem State.locate_a (s : State) (o : Operand) : (s.locate o).a = s.a := by cases o <;> rfl
@[simp] theorem State.locate_f (s : State) (o : Operand) : (s.locate o).f = s.f := by cases o <;> rfl
@[simp] theorem State.locate_b (s : State) (o : Operand) : (s.locate o).b = s.b := by cases o <;> rfl
@[simp] theorem State.locate_c (s : State) (o : Operand) : (s.locate o).c = s.c := by cases o <;> rfl
@[simp] theorem State.locate_d (s : State) (o : Operand) : (s.locate o).d = s.d := by cases o <;> rfl
@[simp] theorem State.locate_e (s : State) (o : Operand) : (s.locate o).e = s.e := by cases o <;> rfl
@[simp] theorem State.locate_h (s : State) (o : Operand) : (s.locate o).h = s.h := by cases o <;> rfl
@[simp] theorem State.locate_l (s : State) (o : Operand) : (s.locate o).l = s.l := by cases o <;> rfl
@[simp] theorem State.locate_a' (s : State) (o : Operand) : (s.locate o).a' = s.a' := by cases o <;> rfl
@[simp] theorem State.locate_f' (s : State) (o : Operand) : (s.locate o).f' = s.f' := by cases o <;> rfl
@[simp] theorem State.locate_b' (s : State) (o : Operand) : (s.locate o).b' = s.b' := by cases o <;> rfl
@[simp] theorem State.locate_c' (s : State) (o : Operand) : (s.locate o).c' = s.c' := by cases o <;> rfl
@[simp] theorem State.locate_d' (s : State) (o : Operand) : (s.locate o).d' = s.d' := by cases o <;> rfl
@[simp] theorem State.locate_e' (s : State) (o : Operand) : (s.locate o).e' = s.e' := by cases o <;> rfl
@[simp] theorem State.locate_h' (s : State) (o : Operand) : (s.locate o).h' = s.h' := by cases o <;> rfl
@[simp] theorem State.locate_l' (s : State) (o : Operand) : (s.locate o).l' = s.l' := by cases o <;> rfl
@[simp] theorem State.locate_ix (s : State) (o : Operand) : (s.locate o).ix = s.ix := by cases o <;> rfl
@[simp] theorem State.locate_iy (s : State) (o : Operand) : (s.locate o).iy = s.iy := by cases o <;> rfl
@[simp] theorem State.locate_sp (s : State) (o : Operand) : (s.locate o).sp = s.sp := by cases o <;> rfl
@[simp] theorem State.locate_pc (s : State) (o : Operand) : (s.locate o).pc = s.pc := by cases o <;> rfl
@[simp] theorem State.locate_i (s : State) (o : Operand) : (s.locate o).i = s.i := by cases o <;> rfl
@[simp] theorem State.locate_r (s : State) (o : Operand) : (s.locate o).r = s.r := by cases o <;> rfl
@[simp] theorem State.locate_iff (s : State) (o : Operand) : (s.locate o).iff = s.iff := by cases o <;> rfl
@[simp] theorem State.locate_terminate (s : State) (o : Operand) : (s.locate o).terminate = s.terminate := by cases o <;> rfl
@[simp] theorem State.locate_termReason (s : State) (o : Operand) : (s.locate o).termReason = s.termReason := by cases o <;> rfl
@[simp] theorem State.locate_mem (s : State) (o : Operand) : (s.locate o).mem = s.mem := by cases o <;> rfl
@[simp] theorem State.locate_plane (s : State) (o : Operand) : (s.locate o).plane = s.plane := by cases o <;> rfl
@[simp] theorem State.locate_signal (s : State) (o : Operand) : (s.locate o).signal = s.signal := by cases o <;> rfl
@[simp] theorem State.locate_env (s : State) (o : Operand) : (s.locate o).env = s.env := by cases o <;> rfl
@[simp] theorem State.locate_dma (s : State) (o : Operand) : (s.locate o).dma = s.dma := by cases o <;> rfl
@[simp] theorem State.locate_dpbAddr (s : State) (o : Operand) : (s.locate o).dpbAddr = s.dpbAddr := by cases o <;> rfl
@[simp] theorem State.locate_alvAddr (s : State) (o : Operand) : (s.locate o).alvAddr = s.alvAddr := by cases o <;> rfl

/-! ### `store` -/

@[simp] theorem State.store_f (s : State) (o : Operand) (v : Byte) : (s.store o v).f = s.f := by cases o <;> simp [State.store]
@[simp] theorem State.store_a' (s : State) (o : Operand) (v : Byte) : (s.store o v).a' = s.a' := by cases o <;> simp [State.store]
@[simp] theorem State.store_f' (s : State) (o : Operand) (v : Byte) : (s.store o v).f' = s.f' := by cases o <;> simp [State.store]
@[simp] theorem State.store_b' (s : State) (o : Operand) (v : Byte) : (s.store o v).b' = s.b' := by cases o <;> simp [State.store]
@[simp] theorem State.store_c' (s : State) (o : Operand) (v : Byte) : (s.store o v).c' = s.c' := by cases o <;> simp [State.store]
@[simp] theorem State.store_d' (s : State) (o : Operand) (v : Byte) : (s.store o v).d' = s.d' := by cases o <;> simp [State.store]
@[simp] theorem State.store_e' (s : State) (o : Operand) (v : Byte) : (s.store o v).e' = s.e' := by cases o <;> simp [State.store]
@[simp] theorem State.store_h' (s : State) (o : Operand) (v : Byte) : (s.store o v).h' = s.h' := by cases o <;> simp [State.store]
@[simp] theorem State.store_l' (s : State) (o : Operand) (v : Byte) : (s.store o v).l' = s.l' := by cases o <;> simp [State.store]
@[simp] theorem State.store_sp (s : State) (o : Operand) (v : Byte) : (s.store o v).sp = s.sp := by cases o <;> simp [State.store]
@[simp] theorem State.store_pc (s : State) (o : Operand) (v : Byte) : (s.store o v).pc = s.pc := by cases o <;> simp [State.store]
@[simp] theorem State.store_i (s : State) (o : Operand) (v : Byte) : (s.store o v).i = s.i := by cases o <;> simp [State.store]
@[simp] theorem State.store_r (s : State) (o : Operand) (v : Byte) : (s.store o v).r = s.r := by cases o <;> simp [State.store]
@[simp] theorem State.store_iff (s : State) (o : Operand) (v : Byte) : (s.store o v).iff = s.iff := by cases o <;> simp [State.store]
@[simp] theorem State.store_latch (s : State) (o : Operand) (v : Byte) : (s.store o v).latch = s.latch := by cases o <;> simp [State.store]
@[simp] theorem State.store_terminate (s : State) (o : Operand) (v : Byte) : (s.store o v).terminate = s.terminate := by cases o <;> simp [State.store]
@[simp] theorem State.store_termReason (s : State) (o : Operand) (v : Byte) : (s.store o v).termReason = s.termReason := by cases o <;> simp [State.store]
@[simp] theorem State.store_plane (s : State) (o : Operand) (v : Byte) : (s.store o v).plane = s.plane := by cases o <;> simp [State.store]
@[simp] theorem State.store_signal (s : State) (o : Operand) (v : Byte) : (s.store o v).signal = s.signal := by cases o <;> simp [State.store]
@[simp] theorem State.store_env (s : State) (o : Operand) (v : Byte) : (s.store o v).env = s.env := by cases o <;> simp [State.store]
@[simp] theorem State.store_dma (s : State) (o : Operand) (v : Byte) : (s.store o v).dma = s.dma := by cases o <;> simp [State.store]
@[simp] theorem State.store_dpbAddr (s : State) (o : Operand) (v : Byte) : (s.store o v).dpbAddr = s.dpbAddr := by cases o <;> simp [State.store]
@[simp] theorem State.store_alvAddr (s : State) (o : Operand) (v : Byte) : (s.store o v).alvAddr = s.alvAddr := by cases o <;> simp [State.store]

/-! ### `placeBytes` -/

@[simp] theorem State.placeBytes_a (s : State) (a : Word) (vs : List Byte) : (s.placeBytes a vs).a = s.a := by
  induction vs generalizing s a with
  | nil => rfl
  | cons v vs ih => simp [State.placeBytes, ih]
@[simp] theorem State.placeBytes_f (s : State) (a : Word) (vs : List Byte) : (s.placeBytes a vs).f = s.f := by
  induction vs generalizing s a with
  | nil => rfl
  | cons v vs ih => simp [State.placeBytes, ih]
@[simp] theorem State.placeBytes_b (s : State) (a : Word) (vs : List Byte) : (s.placeBytes a vs).b = s.b := by
  induction vs generalizing s a with
  | nil => rfl
  | cons v vs ih => simp [State.placeBytes, ih]
@[simp] theorem State.placeBytes_c (s : State) (a : Word) (vs : List Byte) : (s.placeBytes a vs).c = s.c := by
  induction vs generalizing s a with
  | nil => rfl
  | cons v vs ih => simp [State.placeBytes, ih]
@[simp] theorem State.placeBytes_d (s : State) (a : Word) (vs : List Byte) : (s.placeBytes a vs).d = s.d := by
  induction vs generalizing s a with
  | nil => rfl
  | cons v vs ih => simp [State.placeBytes, ih]
@[simp] theorem State.placeBytes_e (s : State) (a : Word) (vs : List Byte) : (s.placeBytes a vs).e = s.e := by
  induction vs generalizing s a with
  | nil => rfl
  | cons v vs ih => simp [State.placeBytes, ih]
@[simp] theorem State.placeBytes_h (s : State) (a : Word) (vs : List Byte) : (s.placeBytes a vs).h = s.h := by
  induction vs generalizing s a with
  | nil => rfl
  | cons v vs ih => simp [State.placeBytes, ih]
@[simp] theorem State.placeBytes_l (s : State) (a : Word) (vs : List Byte) : (s.placeBytes a vs).l = s.l := by
  induction vs generalizing s a with
  | nil => rfl
  | cons v vs ih => simp [State.placeBytes, ih]
@[simp] theorem State.placeBytes_a' (s : State) (a : Word) (vs : List Byte) : (s.placeBytes a vs).a' = s.a' := by
  induction vs generalizing s a with
  | nil => rfl
  | cons v vs ih => simp [State.placeBytes, ih]
@[simp] theorem State.placeBytes_f' (s : State) (a : Word) (vs : List Byte) : (s.placeBytes a vs).f' = s.f' := by
  induction vs generalizing s a with
  | nil => rfl
  | cons v vs ih => simp [State.placeBytes, ih]
@[simp] theorem State.placeBytes_b' (s : State) (a : Word) (vs : List Byte) : (s.placeBytes a vs).b' = s.b' := by
  induction vs generalizing s a with
  | nil => rfl
  | cons v vs ih => simp [State.placeBytes, ih]
@[simp] theorem State.placeBytes_c' (s : State) (a : Word) (vs : List Byte) : (s.placeBytes a vs).c' = s.c' := by
  induction vs generalizing s a with
  | nil => rfl
  | cons v vs ih => simp [State.placeBytes, ih]
@[simp] theorem State.placeBytes_d' (s : State) (a : Word) (vs : List Byte) : (s.placeBytes a vs).d' = s.d' := by
  induction vs generalizing s a with
  | nil => rfl
  | cons v vs ih => simp [State.placeBytes, ih]
@[simp] theorem State.placeBytes_e' (s : State) (a : Word) (vs : List Byte) : (s.placeBytes a vs).e' = s.e' := by
  induction vs generalizing s a with
  | nil => rfl
  | cons v vs ih => simp [State.placeBytes, ih]
@[simp] theorem State.placeBytes_h' (s : State) (a : Word) (vs : List Byte) : (s.placeBytes a vs).h' = s.h' := by
  induction vs generalizing s a with
  | nil => rfl
  | cons v vs ih => simp [State.placeBytes, ih]
@[simp] theorem State.placeBytes_l' (s : State) (a : Word) (vs : List Byte) : (s.placeBytes a vs).l' = s.l' := by
  induction vs generalizing s a with
  | nil => rfl
  | cons v vs ih => simp [State.placeBytes, ih]
@[simp] theorem State.placeBytes_ix (s : State) (a : Word) (vs : List Byte) : (s.placeBytes a vs).ix = s.ix := by
  induction vs generalizing s a with
  | nil => rfl
  | cons v vs ih => simp [State.placeBytes, ih]
@[simp] theorem State.placeBytes_iy (s : State) (a : Word) (vs : List Byte) : (s.placeBytes a vs).iy = s.iy := by
  induction vs generalizing s a with
  | nil => rfl
  | cons v vs ih => simp [State.placeBytes, ih]
@[simp] theorem State.placeBytes_sp (s : State) (a : Word) (vs : List Byte) : (s.placeBytes a vs).sp = s.sp := by
  induction vs generalizing s a with
  | nil => rfl
  | cons v vs ih => simp [State.placeBytes, ih]
@[simp] theorem State.placeBytes_pc (s : State) (a : Word) (vs : List Byte) : (s.placeBytes a vs).pc = s.pc := by
  induction vs generalizing s a with
  | nil => rfl
  | cons v vs ih => simp [State.placeBytes, ih]
@[simp] theorem State.placeBytes_i (s : State) (a : Word) (vs : List Byte) : (s.placeBytes a vs).i = s.i := by
  induction vs generalizing s a with
  | nil => rfl
  | cons v vs ih => simp [State.placeBytes, ih]
@[simp] theorem State.placeBytes_r (s : State) (a : Word) (vs : List Byte) : (s.placeBytes a vs).r = s.r := by
  induction vs generalizing s a with
  | nil => rfl
  | cons v vs ih => simp [State.placeBytes, ih]
@[simp] theorem State.placeBytes_iff (s : State) (a : Word) (vs : List Byte) : (s.placeBytes a vs).iff = s.iff := by
  induction vs generalizing s a with
  | nil => rfl
  | cons v vs ih => simp [State.placeBytes, ih]
@[simp] theorem State.placeBytes_latch (s : State) (a : Word) (vs : List Byte) : (s.placeBytes a vs).latch = s.latch := by
  induction vs generalizing s a with
  | nil => rfl
  | cons v vs ih => simp [State.placeBytes, ih]
@[simp] theorem State.placeBytes_terminate (s : State) (a : Word) (vs : List Byte) : (s.placeBytes a vs).terminate = s.terminate := by
  induction vs generalizing s a with
  | nil => rfl
  | cons v vs ih => simp [State.placeBytes, ih]
@[simp] theorem State.placeBytes_termReason (s : State) (a : Word) (vs : List Byte) : (s.placeBytes a vs).termReason = s.termReason := by
  induction vs generalizing s a with
  | nil => rfl
  | cons v vs ih => simp [State.placeBytes, ih]
@[simp] theorem State.placeBytes_plane (s : State) (a : Word) (vs : List Byte) : (s.placeBytes a vs).plane = s.plane := by
  induction vs generalizing s a with
  | nil => rfl
  | cons v vs ih => simp [State.placeBytes, ih]
@[simp] theorem State.placeBytes_signal (s : State) (a : Word) (vs : List Byte) : (s.placeBytes a vs).signal = s.signal := by
  induction vs generalizing s a with
  | nil => rfl
  | cons v vs ih => simp [State.placeBytes, ih]
@[simp] theorem State.placeBytes_env (s : State) (a : Word) (vs : List Byte) : (s.placeBytes a vs).env = s.env := by
  induction vs generalizing s a with
  | nil => rfl
  | cons v vs ih => simp [State.placeBytes, ih]
@[simp] theorem State.placeBytes_dma (s : State) (a : Word) (vs : List Byte) : (s.placeBytes a vs).dma = s.dma := by
  induction vs generalizing s a with
  | nil => rfl
  | cons v vs ih => simp [State.placeBytes, ih]
@[simp] theorem State.placeBytes_dpbAddr (s : State) (a : Word) (vs : List Byte) : (s.placeBytes a vs).dpbAddr = s.dpbAddr := by
  induction vs generalizing s a with
  | nil => rfl
  | cons v vs ih => simp [State.placeBytes, ih]
@[simp] theorem State.placeBytes_alvAddr (s : State) (a : Word) (vs : List Byte) : (s.placeBytes a vs).alvAddr = s.alvAddr := by
  induction vs generalizing s a with
  | nil => rfl
  | cons v vs ih => simp [State.placeBytes, ih]

/-! ### `writeBytes` -/

@[simp] theorem State.writeBytes_a (s : State) (ws : List (Word × Byte)) : (s.writeBytes ws).a = s.a := by
  induction ws generalizing s with
  | nil => rfl
  | cons w ws ih => simp [State.writeBytes, ih]
@[simp] theorem State.writeBytes_f (s : State) (ws : List (Word × Byte)) : (s.writeBytes ws).f = s.f := by
  induction ws generalizing s with
  | nil => rfl
  | cons w ws ih => simp [State.writeBytes, ih]
@[simp] theorem State.writeBytes_b (s : State) (ws : List (Word × Byte)) : (s.writeBytes ws).b = s.b := by
  induction ws generalizing s with
  | nil => rfl
  | cons w ws ih => simp [State.writeBytes, ih]
@[simp] theorem State.writeBytes_c (s : State) (ws : List (Word × Byte)) : (s.writeBytes ws).c = s.c := by
  induction ws generalizing s with
  | nil => rfl
  | cons w ws ih => simp [State.writeBytes, ih]
@[simp] theorem State.writeBytes_d (s : State) (ws : List (Word × Byte)) : (s.writeBytes ws).d = s.d := by
  induction ws generalizing s with
  | nil => rfl
  | cons w ws ih => simp [State.writeBytes, ih]
@[simp] theorem State.writeBytes_e (s : State) (ws : List (Word × Byte)) : (s.writeBytes ws).e = s.e := by
  induction ws generalizing s with
  | nil => rfl
  | cons w ws ih => simp [State.writeBytes, ih]
@[simp] theorem State.writeBytes_h (s : State) (ws : List (Word × Byte)) : (s.writeBytes ws).h = s.h := by
  induction ws generalizing s with
  | nil => rfl
  | cons w ws ih => simp [State.writeBytes, ih]
@[simp] theorem State.writeBytes_l (s : State) (ws : List (Word × Byte)) : (s.writeBytes ws).l = s.l := by
  induction ws generalizing s with
  | nil => rfl
  | cons w ws ih => simp [State.writeBytes, ih]
@[simp] theorem State.writeBytes_a' (s : State) (ws : List (Word × Byte)) : (s.writeBytes ws).a' = s.a' := by
  induction ws generalizing s with
  | nil => rfl
  | cons w ws ih => simp [State.writeBytes, ih]
@[simp] theorem State.writeBytes_f' (s : State) (ws : List (Word × Byte)) : (s.writeBytes ws).f' = s.f' := by
  induction ws generalizing s with
  | nil => rfl
  | cons w ws ih => simp [State.writeBytes, ih]
@[simp] theorem State.writeBytes_b' (s : State) (ws : List (Word × Byte)) : (s.writeBytes ws).b' = s.b' := by
  induction ws generalizing s with
  | nil => rfl
  | cons w ws ih => simp [State.writeBytes, ih]
@[simp] theorem State.writeBytes_c' (s : State) (ws : List (Word × Byte)) : (s.writeBytes ws).c' = s.c' := by
  induction ws generalizing s with
  | nil => rfl
  | cons w ws ih => simp [State.writeBytes, ih]
@[simp] theorem State.writeBytes_d' (s : State) (ws : List (Word × Byte)) : (s.writeBytes ws).d' = s.d' := by
  induction ws generalizing s with
  | nil => rfl
  | cons w ws ih => simp [State.writeBytes, ih]
@[simp] theorem State.writeBytes_e' (s : State) (ws : List (Word × Byte)) : (s.writeBytes ws).e' = s.e' := by
  induction ws generalizing s with
  | nil => rfl
  | cons w ws ih => simp [State.writeBytes, ih]
@[simp] theorem State.writeBytes_h' (s : State) (ws : List (Word × Byte)) : (s.writeBytes ws).h' = s.h' := by
  induction ws generalizing s with
  | nil => rfl
  | cons w ws ih => simp [State.writeBytes, ih]
@[simp] theorem State.writeBytes_l' (s : State) (ws : List (Word × Byte)) : (s.writeBytes ws).l' = s.l' := by
  induction ws generalizing s with
  | nil => rfl
  | cons w ws ih => simp [State.writeBytes, ih]
@[simp] theorem State.writeBytes_ix (s : State) (ws : List (Word × Byte)) : (s.writeBytes ws).ix = s.ix := by
  induction ws generalizing s with
  | nil => rfl
  | cons w ws ih => simp [State.writeBytes, ih]
@[simp] theorem State.writeBytes_iy (s : State) (ws : List (Word × Byte)) : (s.writeBytes ws).iy = s.iy := by
  induction ws generalizing s with
  | nil => rfl
  | cons w ws ih => simp [State.writeBytes, ih]
@[simp] theorem State.writeBytes_sp (s : State) (ws : List (Word × Byte)) : (s.writeBytes ws).sp = s.sp := by
  induction ws generalizing s with
  | nil => rfl
  | cons w ws ih => simp [State.writeBytes, ih]
@[simp] theorem State.writeBytes_pc (s : State) (ws : List (Word × Byte)) : (s.writeBytes ws).pc = s.pc := by
  induction ws generalizing s with
  | nil => rfl
  | cons w ws ih => simp [State.writeBytes, ih]
@[simp] theorem State.writeBytes_i (s : State) (ws : List (Word × Byte)) : (s.writeBytes ws).i = s.i := by
  induction ws generalizing s with
  | nil => rfl
  | cons w ws ih => simp [State.writeBytes, ih]
@[simp] theorem State.writeBytes_r (s : State) (ws : List (Word × Byte)) : (s.writeBytes ws).r = s.r := by
  induction ws generalizing s with
  | nil => rfl
  | cons w ws ih => simp [State.writeBytes, ih]
@[simp] theorem State.writeBytes_iff (s : State) (ws : List (Word × Byte)) : (s.writeBytes ws).iff = s.iff := by
  induction ws generalizing s with
  | nil => rfl
  | cons w ws ih => simp [State.writeBytes, ih]
@[simp] theorem State.writeBytes_latch (s : State) (ws : List (Word × Byte)) : (s.writeBytes ws).latch = s.latch := by
  induction ws generalizing s with
  | nil => rfl
  | cons w ws ih => simp [State.writeBytes, ih]
@[simp] theorem State.writeBytes_terminate (s : State) (ws : List (Word × Byte)) : (s.writeBytes ws).terminate = s.terminate := by
  induction ws generalizing s with
  | nil => rfl
  | cons w ws ih => simp [State.writeBytes, ih]
@[simp] theorem State.writeBytes_termReason (s : State) (ws : List (Word × Byte)) : (s.writeBytes ws).termReason = s.termReason := by
  induction ws generalizing s with
  | nil => rfl
  | cons w ws ih => simp [State.writeBytes, ih]
@[simp] theorem State.writeBytes_plane (s : State) (ws : List (Word × Byte)) : (s.writeBytes ws).plane = s.plane := by
  induction ws generalizing s with
  | nil => rfl
  | cons w ws ih => simp [State.writeBytes, ih]
@[simp] theorem State.writeBytes_signal (s : State) (ws : List (Word × Byte)) : (s.writeBytes ws).signal = s.signal := by
  induction ws generalizing s with
  | nil => rfl
  | cons w ws ih => simp [State.writeBytes, ih]
@[simp] theorem State.writeBytes_env (s : State) (ws : List (Word × Byte)) : (s.writeBytes ws).env = s.env := by
  induction ws generalizing s with
  | nil => rfl
  | cons w ws ih => simp [State.writeBytes, ih]
@[simp] theorem State.writeBytes_dma (s : State) (ws : List (Word × Byte)) : (s.writeBytes ws).dma = s.dma := by
  induction ws generalizing s with
  | nil => rfl
  | cons w ws ih => simp [State.writeBytes, ih]
@[simp] theorem State.writeBytes_dpbAddr (s : State) (ws : List (Word × Byte)) : (s.writeBytes ws).dpbAddr = s.dpbAddr := by
  induction ws generalizing s with
  | nil => rfl
  | cons w ws ih => simp [State.writeBytes, ih]
@[simp] theorem State.writeBytes_alvAddr (s : State) (ws : List (Word × Byte)) : (s.writeBytes ws).alvAddr = s.alvAddr := by
  induction ws generalizing s with
  | nil => rfl
  | cons w ws ih => simp [State.writeBytes, ih]

/-! ### `placeRegions` -/

@[simp] theorem State.placeRegions_a (s : State) (rs : List (Word × List Byte)) : (s.placeRegions rs).a = s.a := by
  induction rs generalizing s with
  | nil => rfl
  | cons r rs ih => simp [State.placeRegions, ih]
@[simp] theorem State.placeRegions_f (s : State) (rs : List (Word × List Byte)) : (s.placeRegions rs).f = s.f := by
  induction rs generalizing s with
  | nil => rfl
  | cons r rs ih => simp [State.placeRegions, ih]
@[simp] theorem State.placeRegions_b (s : State) (rs : List (Word × List Byte)) : (s.placeRegions rs).b = s.b := by
  induction rs generalizing s with
  | nil => rfl
  | cons r rs ih => simp [State.placeRegions, ih]
@[simp] theorem State.placeRegions_c (s : State) (rs : List (Word × List Byte)) : (s.placeRegions rs).c = s.c := by
  induction rs generalizing s with
  | nil => rfl
  | cons r rs ih => simp [State.placeRegions, ih]
@[simp] theorem State.placeRegions_d (s : State) (rs : List (Word × List Byte)) : (s.placeRegions rs).d = s.d := by
  induction rs generalizing s with
  | nil => rfl
  | cons r rs ih => simp [State.placeRegions, ih]
@[simp] theorem State.placeRegions_e (s : State) (rs : List (Word × List Byte)) : (s.placeRegions rs).e = s.e := by
  induction rs generalizing s with
  | nil => rfl
  | cons r rs ih => simp [State.placeRegions, ih]
@[simp] theorem State.placeRegions_h (s : State) (rs : List (Word × List Byte)) : (s.placeRegions rs).h = s.h := by
  induction rs generalizing s with
  | nil => rfl
  | cons r rs ih => simp [State.placeRegions, ih]
@[simp] theorem State.placeRegions_l (s : State) (rs : List (Word × List Byte)) : (s.placeRegions rs).l = s.l := by
  induction rs generalizing s with
  | nil => rfl
  | cons r rs ih => simp [State.placeRegions, ih]
@[simp] theorem State.placeRegions_a' (s : State) (rs : List (Word × List Byte)) : (s.placeRegions rs).a' = s.a' := by
  induction rs generalizing s with
  | nil => rfl
  | cons r rs ih => simp [State.placeRegions, ih]
@[simp] theorem State.placeRegions_f' (s : State) (rs : List (Word × List Byte)) : (s.placeRegions rs).f' = s.f' := by
  induction rs generalizing s with
  | nil => rfl
  | cons r rs ih => simp [State.placeRegions, ih]
@[simp] theorem State.placeRegions_b' (s : State) (rs : List (Word × List Byte)) : (s.placeRegions rs).b' = s.b' := by
  induction rs generalizing s with
  | nil => rfl
  | cons r rs ih => simp [State.placeRegions, ih]
@[simp] theorem State.placeRegions_c' (s : State) (rs : List (Word × List Byte)) : (s.placeRegions rs).c' = s.c' := by
  induction rs generalizing s with
  | nil => rfl
  | cons r rs ih => simp [State.placeRegions, ih]
@[simp] theorem State.placeRegions_d' (s : State) (rs : List (Word × List Byte)) : (s.placeRegions rs).d' = s.d' := by
  induction rs generalizing s with
  | nil => rfl
  | cons r rs ih => simp [State.placeRegions, ih]
@[simp] theorem State.placeRegions_e' (s : State) (rs : List (Word × List Byte)) : (s.placeRegions rs).e' = s.e' := by
  induction rs generalizing s with
  | nil => rfl
  | cons r rs ih => simp [State.placeRegions, ih]
@[simp] theorem State.placeRegions_h' (s : State) (rs : List (Word × List Byte)) : (s.placeRegions rs).h' = s.h' := by
  induction rs generalizing s with
  | nil => rfl
  | cons r rs ih => simp [State.placeRegions, ih]
@[simp] theorem State.placeRegions_l' (s : State) (rs : List (Word × List Byte)) : (s.placeRegions rs).l' = s.l' := by
  induction rs generalizing s with
  | nil => rfl
  | cons r rs ih => simp [State.placeRegions, ih]
@[simp] theorem State.placeRegions_ix (s : State) (rs : List (Word × List Byte)) : (s.placeRegions rs).ix = s.ix := by
  induction rs generalizing s with
  | nil => rfl
  | cons r rs ih => simp [State.placeRegions, ih]
@[simp] theorem State.placeRegions_iy (s : State) (rs : List (Word × List Byte)) : (s.placeRegions rs).iy = s.iy := by
  induction rs generalizing s with
  | nil => rfl
  | cons r rs ih => simp [State.placeRegions, ih]
@[simp] theorem State.placeRegions_sp (s : State) (rs : List (Word × List Byte)) : (s.placeRegions rs).sp = s.sp := by
  induction rs generalizing s with
  | nil => rfl
  | cons r rs ih => simp [State.placeRegions, ih]
@[simp] theorem State.placeRegions_pc (s : State) (rs : List (Word × List Byte)) : (s.placeRegions rs).pc = s.pc := by
  induction rs generalizing s with
  | nil => rfl
  | cons r rs ih => simp [State.placeRegions, ih]
@[simp] theorem State.placeRegions_i (s : State) (rs : List (Word × List Byte)) : (s.placeRegions rs).i = s.i := by
  induction rs generalizing s with
  | nil => rfl
  | cons r rs ih => simp [State.placeRegions, ih]
@[simp] theorem State.placeRegions_r (s : State) (rs : List (Word × List Byte)) : (s.placeRegions rs).r = s.r := by
  induction rs generalizing s with
  | nil => rfl
  | cons r rs ih => simp [State.placeRegions, ih]
@[simp] theorem State.placeRegions_iff (s : State) (rs : List (Word × List Byte)) : (s.placeRegions rs).iff = s.iff := by
  induction rs generalizing s with
  | nil => rfl
  | cons r rs ih => simp [State.placeRegions, ih]
@[simp] theorem State.placeRegions_latch (s : State) (rs : List (Word × List Byte)) : (s.placeRegions rs).latch = s.latch := by
  induction rs generalizing s with
  | nil => rfl
  | cons r rs ih => simp [State.placeRegions, ih]
@[simp] theorem State.placeRegions_terminate (s : State) (rs : List (Word × List Byte)) : (s.placeRegions rs).terminate = s.terminate := by
  induction rs generalizing s with
  | nil => rfl
  | cons r rs ih => simp [State.placeRegions, ih]
@[simp] theorem State.placeRegions_termReason (s : State) (rs : List (Word × List Byte)) : (s.placeRegions rs).termReason = s.termReason := by
  induction rs generalizing s with
  | nil => rfl
  | cons r rs ih => simp [State.placeRegions, ih]
@[simp] theorem State.placeRegions_plane (s : State) (rs : List (Word × List Byte)) : (s.placeRegions rs).plane = s.plane := by
  induction rs generalizing s with
  | nil => rfl
  | cons r rs ih => simp [State.placeRegions, ih]
@[simp] theorem State.placeRegions_signal (s : State) (rs : List (Word × List Byte)) : (s.placeRegions rs).signal = s.signal := by
  induction rs generalizing s with
  | nil => rfl
  | cons r rs ih => simp [State.placeRegions, ih]
@[simp] theorem State.placeRegions_env (s : State) (rs : List (Word × List Byte)) : (s.placeRegions rs).env = s.env := by
  induction rs generalizing s with
  | nil => rfl
  | cons r rs ih => simp [State.placeRegions, ih]
@[simp] theorem State.placeRegions_dma (s : State) (rs : List (Word × List Byte)) : (s.placeRegions rs).dma = s.dma := by
  induction rs generalizing s with
  | nil => rfl
  | cons r rs ih => simp [State.placeRegions, ih]
@[simp] theorem State.placeRegions_dpbAddr (s : State) (rs : List (Word × List Byte)) : (s.placeRegions rs).dpbAddr = s.dpbAddr := by
  induction rs generalizing s with
  | nil => rfl
  | cons r rs ih => simp [State.placeRegions, ih]
@[simp] theorem State.placeRegions_alvAddr (s : State) (rs : List (Word × List Byte)) : (s.placeRegions rs).alvAddr = s.alvAddr := by
  induction rs generalizing s with
  | nil => rfl
  | cons r rs ih => simp [State.placeRegions, ih]

/-! ### The updates by a named register -/

@[simp] theorem State.setReg8_at_a_a (s : State) (v : Byte) : (s.setReg8 .a v).a = v := rfl
@[simp] theorem State.setReg8_at_a_b (s : State) (v : Byte) : (s.setReg8 .a v).b = s.b := rfl
@[simp] theorem State.setReg8_at_a_c (s : State) (v : Byte) : (s.setReg8 .a v).c = s.c := rfl
@[simp] theorem State.setReg8_at_a_d (s : State) (v : Byte) : (s.setReg8 .a v).d = s.d := rfl
@[simp] theorem State.setReg8_at_a_e (s : State) (v : Byte) : (s.setReg8 .a v).e = s.e := rfl
@[simp] theorem State.setReg8_at_a_h (s : State) (v : Byte) : (s.setReg8 .a v).h = s.h := rfl
@[simp] theorem State.setReg8_at_a_l (s : State) (v : Byte) : (s.setReg8 .a v).l = s.l := rfl
@[simp] theorem State.setReg8_at_b_a (s : State) (v : Byte) : (s.setReg8 .b v).a = s.a := rfl
@[simp] theorem State.setReg8_at_b_b (s : State) (v : Byte) : (s.setReg8 .b v).b = v := rfl
@[simp] theorem State.setReg8_at_b_c (s : State) (v : Byte) : (s.setReg8 .b v).c = s.c := rfl
@[simp] theorem State.setReg8_at_b_d (s : State) (v : Byte) : (s.setReg8 .b v).d = s.d := rfl
@[simp] theorem State.setReg8_at_b_e (s : State) (v : Byte) : (s.setReg8 .b v).e = s.e := rfl
@[simp] theorem State.setReg8_at_b_h (s : State) (v : Byte) : (s.setReg8 .b v).h = s.h := rfl
@[simp] theorem State.setReg8_at_b_l (s : State) (v : Byte) : (s.setReg8 .b v).l = s.l := rfl
@[simp] theorem State.setReg8_at_c_a (s : State) (v : Byte) : (s.setReg8 .c v).a = s.a := rfl
@[simp] theorem State.setReg8_at_c_b (s : State) (v : Byte) : (s.setReg8 .c v).b = s.b := rfl
@[simp] theorem State.setReg8_at_c_c (s : State) (v : Byte) : (s.setReg8 .c v).c = v := rfl
@[simp] theorem State.setReg8_at_c_d (s : State) (v : Byte) : (s.setReg8 .c v).d = s.d := rfl
@[simp] theorem State.setReg8_at_c_e (s : State) (v : Byte) : (s.setReg8 .c v).e = s.e := rfl
@[simp] theorem State.setReg8_at_c_h (s : State) (v : Byte) : (s.setReg8 .c v).h = s.h := rfl
@[simp] theorem State.setReg8_at_c_l (s : State) (v : Byte) : (s.setReg8 .c v).l = s.l := rfl
@[simp] theorem State.setReg8_at_d_a (s : State) (v : Byte) : (s.setReg8 .d v).a = s.a := rfl
@[simp] theorem State.setReg8_at_d_b (s : State) (v : Byte) : (s.setReg8 .d v).b = s.b := rfl
@[simp] theorem State.setReg8_at_d_c (s : State) (v : Byte) : (s.setReg8 .d v).c = s.c := rfl
@[simp] theorem State.setReg8_at_d_d (s : State) (v : Byte) : (s.setReg8 .d v).d = v := rfl
@[simp] theorem State.setReg8_at_d_e (s : State) (v : Byte) : (s.setReg8 .d v).e = s.e := rfl
@[simp] theorem State.setReg8_at_d_h (s : State) (v : Byte) : (s.setReg8 .d v).h = s.h := rfl
@[simp] theorem State.setReg8_at_d_l (s : State) (v : Byte) : (s.setReg8 .d v).l = s.l := rfl
@[simp] theorem State.setReg8_at_e_a (s : State) (v : Byte) : (s.setReg8 .e v).a = s.a := rfl
@[simp] theorem State.setReg8_at_e_b (s : State) (v : Byte) : (s.setReg8 .e v).b = s.b := rfl
@[simp] theorem State.setReg8_at_e_c (s : State) (v : Byte) : (s.setReg8 .e v).c = s.c := rfl
@[simp] theorem State.setReg8_at_e_d (s : State) (v : Byte) : (s.setReg8 .e v).d = s.d := rfl
@[simp] theorem State.setReg8_at_e_e (s : State) (v : Byte) : (s.setReg8 .e v).e = v := rfl
@[simp] theorem State.setReg8_at_e_h (s : State) (v : Byte) : (s.setReg8 .e v).h = s.h := rfl
@[simp] theorem State.setReg8_at_e_l (s : State) (v : Byte) : (s.setReg8 .e v).l = s.l := rfl
@[simp] theorem State.setReg8_at_h_a (s : State) (v : Byte) : (s.setReg8 .h v).a = s.a := rfl
@[simp] theorem State.setReg8_at_h_b (s : State) (v : Byte) : (s.setReg8 .h v).b = s.b := rfl
@[simp] theorem State.setReg8_at_h_c (s : State) (v : Byte) : (s.setReg8 .h v).c = s.c := rfl
@[simp] theorem State.setReg8_at_h_d (s : State) (v : Byte) : (s.setReg8 .h v).d = s.d := rfl
@[simp] theorem State.setReg8_at_h_e (s : State) (v : Byte) : (s.setReg8 .h v).e = s.e := rfl
@[simp] theorem State.setReg8_at_h_h (s : State) (v : Byte) : (s.setReg8 .h v).h = v := rfl
@[simp] theorem State.setReg8_at_h_l (s : State) (v : Byte) : (s.setReg8 .h v).l = s.l := rfl
@[simp] theorem State.setReg8_at_l_a (s : State) (v : Byte) : (s.setReg8 .l v).a = s.a := rfl
@[simp] theorem State.setReg8_at_l_b (s : State) (v : Byte) : (s.setReg8 .l v).b = s.b := rfl
@[simp] theorem State.setReg8_at_l_c (s : State) (v : Byte) : (s.setReg8 .l v).c = s.c := rfl
@[simp] theorem State.setReg8_at_l_d (s : State) (v : Byte) : (s.setReg8 .l v).d = s.d := rfl
@[simp] theorem State.setReg8_at_l_e (s : State) (v : Byte) : (s.setReg8 .l v).e = s.e := rfl
@[simp] theorem State.setReg8_at_l_h (s : State) (v : Byte) : (s.setReg8 .l v).h = s.h := rfl
@[simp] theorem State.setReg8_at_l_l (s : State) (v : Byte) : (s.setReg8 .l v).l = v := rfl
@[simp] theorem State.setPair_at_bc_b (s : State) (w : Word) : (s.setPair .bc w).b = hiByte w := rfl
@[simp] theorem State.setPair_at_bc_c (s : State) (w : Word) : (s.setPair .bc w).c = loByte w := rfl
@[simp] theorem State.setPair_at_bc_d (s : State) (w : Word) : (s.setPair .bc w).d = s.d := rfl
@[simp] theorem State.setPair_at_bc_e (s : State) (w : Word) : (s.setPair .bc w).e = s.e := rfl
@[simp] theorem State.setPair_at_bc_h (s : State) (w : Word) : (s.setPair .bc w).h = s.h := rfl
@[simp] theorem State.setPair_at_bc_l (s : State) (w : Word) : (s.setPair .bc w).l = s.l := rfl
@[simp] theorem State.setPair_at_bc_sp (s : State) (w : Word) : (s.setPair .bc w).sp = s.sp := rfl
@[simp] theorem State.setPair_at_de_b (s : State) (w : Word) : (s.setPair .de w).b = s.b := rfl
@[simp] theorem State.setPair_at_de_c (s : State) (w : Word) : (s.setPair .de w).c = s.c := rfl
@[simp] theorem State.setPair_at_de_d (s : State) (w : Word) : (s.setPair .de w).d = hiByte w := rfl
@[simp] theorem State.setPair_at_de_e (s : State) (w : Word) : (s.setPair .de w).e = loByte w := rfl
@[simp] theorem State.setPair_at_de_h (s : State) (w : Word) : (s.setPair .de w).h = s.h := rfl
@[simp] theorem State.setPair_at_de_l (s : State) (w : Word) : (s.setPair .de w).l = s.l := rfl
@[simp] theorem State.setPair_at_de_sp (s : State) (w : Word) : (s.setPair .de w).sp = s.sp := rfl
@[simp] theorem State.setPair_at_hl_b (s : State) (w : Word) : (s.setPair .hl w).b = s.b := rfl
@[simp] theorem State.setPair_at_hl_c (s : State) (w : Word) : (s.setPair .hl w).c = s.c := rfl
@[simp] theorem State.setPair_at_hl_d (s : State) (w : Word) : (s.setPair .hl w).d = s.d := rfl
@[simp] theorem State.setPair_at_hl_e (s : State) (w : Word) : (s.setPair .hl w).e = s.e := rfl
@[simp] theorem State.setPair_at_hl_h (s : State) (w : Word) : (s.setPair .hl w).h = hiByte w := rfl
@[simp] theorem State.setPair_at_hl_l (s : State) (w : Word) : (s.setPair .hl w).l = loByte w := rfl
@[simp] theorem State.setPair_at_hl_sp (s : State) (w : Word) : (s.setPair .hl w).sp = s.sp := rfl
@[simp] theorem State.setPair_at_sp_b (s : State) (w : Word) : (s.setPair .sp w).b = s.b := rfl
@[simp] theorem State.setPair_at_sp_c (s : State) (w : Word) : (s.setPair .sp w).c = s.c := rfl
@[simp] theorem State.setPair_at_sp_d (s : State) (w : Word) : (s.setPair .sp w).d = s.d := rfl
@[simp] theorem State.setPair_at_sp_e (s : State) (w : Word) : (s.setPair .sp w).e = s.e := rfl
@[simp] theorem State.setPair_at_sp_h (s : State) (w : Word) : (s.setPair .sp w).h = s.h := rfl
@[simp] theorem State.setPair_at_sp_l (s : State) (w : Word) : (s.setPair .sp w).l = s.l := rfl
@[simp] theorem State.setPair_at_sp_sp (s : State) (w : Word) : (s.setPair .sp w).sp = w := rfl
@[simp] theorem State.setStackPair_at_bc_a (s : State) (w : Word) : (s.setStackPair .bc w).a = s.a := rfl
@[simp] theorem State.setStackPair_at_bc_f (s : State) (w : Word) : (s.setStackPair .bc w).f = s.f := rfl
@[simp] theorem State.setStackPair_at_bc_b (s : State) (w : Word) : (s.setStackPair .bc w).b = hiByte w := rfl
@[simp] theorem State.setStackPair_at_bc_c (s : State) (w : Word) : (s.setStackPair .bc w).c = loByte w := rfl
@[simp] theorem State.setStackPair_at_bc_d (s : State) (w : Word) : (s.setStackPair .bc w).d = s.d := rfl
@[simp] theorem State.setStackPair_at_bc_e (s : State) (w : Word) : (s.setStackPair .bc w).e = s.e := rfl
@[simp] theorem State.setStackPair_at_bc_h (s : State) (w : Word) : (s.setStackPair .bc w).h = s.h := rfl
@[simp] theorem State.setStackPair_at_bc_l (s : State) (w : Word) : (s.setStackPair .bc w).l = s.l := rfl
@[simp] theorem State.setStackPair_at_de_a (s : State) (w : Word) : (s.setStackPair .de w).a = s.a := rfl
@[simp] theorem State.setStackPair_at_de_f (s : State) (w : Word) : (s.setStackPair .de w).f = s.f := rfl
@[simp] theorem State.setStackPair_at_de_b (s : State) (w : Word) : (s.setStackPair .de w).b = s.b := rfl
@[simp] theorem State.setStackPair_at_de_c (s : State) (w : Word) : (s.setStackPair .de w).c = s.c := rfl
@[simp] theorem State.setStackPair_at_de_d (s : State) (w : Word) : (s.setStackPair .de w).d = hiByte w := rfl
@[simp] theorem State.setStackPair_at_de_e (s : State) (w : Word) : (s.setStackPair .de w).e = loByte w := rfl
@[simp] theorem State.setStackPair_at_de_h (s : State) (w : Word) : (s.setStackPair .de w).h = s.h := rfl
@[simp] theorem State.setStackPair_at_de_l (s : State) (w : Word) : (s.setStackPair .de w).l = s.l := rfl
@[simp] theorem State.setStackPair_at_hl_a (s : State) (w : Word) : (s.setStackPair .hl w).a = s.a := rfl
@[simp] theorem State.setStackPair_at_hl_f (s : State) (w : Word) : (s.setStackPair .hl w).f = s.f := rfl
@[simp] theorem State.setStackPair_at_hl_b (s : State) (w : Word) : (s.setStackPair .hl w).b = s.b := rfl
@[simp] theorem State.setStackPair_at_hl_c (s : State) (w : Word) : (s.setStackPair .hl w).c = s.c := rfl
@[simp] theorem State.setStackPair_at_hl_d (s : State) (w : Word) : (s.setStackPair .hl w).d = s.d := rfl
@[simp] theorem State.setStackPair_at_hl_e (s : State) (w : Word) : (s.setStackPair .hl w).e = s.e := rfl
@[simp] theorem State.setStackPair_at_hl_h (s : State) (w : Word) : (s.setStackPair .hl w).h = hiByte w := rfl
@[simp] theorem State.setStackPair_at_hl_l (s : State) (w : Word) : (s.setStackPair .hl w).l = loByte w := rfl
@[simp] theorem State.setStackPair_at_af_a (s : State) (w : Word) : (s.setStackPair .af w).a = hiByte w := rfl
@[simp] theorem State.setStackPair_at_af_f (s : State) (w : Word) : (s.setStackPair .af w).f = Flags.ofByte (loByte w) := rfl
@[simp] theorem State.setStackPair_at_af_b (s : State) (w : Word) : (s.setStackPair .af w).b = s.b := rfl
@[simp] theorem State.setStackPair_at_af_c (s : State) (w : Word) : (s.setStackPair .af w).c = s.c := rfl
@[simp] theorem State.setStackPair_at_af_d (s : State) (w : Word) : (s.setStackPair .af w).d = s.d := rfl
@[simp] theorem State.setStackPair_at_af_e (s : State) (w : Word) : (s.setStackPair .af w).e = s.e := rfl
@[simp] theorem State.setStackPair_at_af_h (s : State) (w : Word) : (s.setStackPair .af w).h = s.h := rfl
@[simp] theorem State.setStackPair_at_af_l (s : State) (w : Word) : (s.setStackPair .af w).l = s.l := rfl
@[simp] theorem State.setIndex_at_ix_ix (s : State) (w : Word) : (s.setIndex .ix w).ix = w := rfl
@[simp] theorem State.setIndex_at_ix_iy (s : State) (w : Word) : (s.setIndex .ix w).iy = s.iy := rfl
@[simp] theorem State.setIndex_at_iy_ix (s : State) (w : Word) : (s.setIndex .iy w).ix = s.ix := rfl
@[simp] theorem State.setIndex_at_iy_iy (s : State) (w : Word) : (s.setIndex .iy w).iy = w := rfl

end Sys2Proof.Machine
end

