-- ==== Sys2Proof/Laws/Memory.lean ====
section
/-! SUPPORT. The laws of the memory list: read after write, the canonical form, and what a store leaves alone. -/

namespace Sys2Proof.Machine

/-! ### The list -/

theorem Memory.get_erase (m : Memory) (a b : Nat) : (m.erase a).get b = if b = a then Memory.launch a else m.get b := by
  induction m with
  | nil => by_cases h : b = a <;> simp [Memory.erase, Memory.get, h]
  | cons c m ih =>
    obtain ⟨k, v⟩ := c
    simp only [Memory.erase, Memory.get]
    split <;> simp only [Memory.get, ih] <;> grind

theorem Memory.get_insert (m : Memory) (a b : Nat) (v : Byte) : (m.insert a v).get b = if b = a then v else m.get b := by
  induction m with
  | nil => simp only [Memory.insert, Memory.get]; grind
  | cons c m ih =>
    obtain ⟨k, w⟩ := c
    simp only [Memory.insert]
    split
    · simp only [Memory.get, ih]; grind
    · split <;> simp only [Memory.get] <;> grind

/-- A read after a store, on any list. -/
theorem Memory.get_set (m : Memory) (a b : Nat) (v : Byte) : (m.set a v).get b = if b = a then v else m.get b := by
  unfold Memory.set
  split
  · rename_i h; rw [Memory.get_erase, h]
  · exact Memory.get_insert m a b v

/-- A bound may be loosened. -/
theorem Memory.wfAbove_mono {j k : Nat} {m : Memory} (hjk : j ≤ k) (h : Memory.wfAbove (some k) m = true) :
    Memory.wfAbove (some j) m = true := by
  cases m with
  | nil => rfl
  | cons c m => simp only [Memory.wfAbove, Bool.and_eq_true, decide_eq_true_eq] at h ⊢; exact ⟨⟨⟨by omega, h.1.1.2⟩, h.1.2⟩, h.2⟩

theorem Memory.wfAbove_none {k : Nat} {m : Memory} (h : Memory.wfAbove (some k) m = true) : Memory.wfAbove none m = true := by
  cases m with
  | nil => rfl
  | cons c m => simp only [Memory.wfAbove, Bool.and_eq_true, decide_eq_true_eq] at h ⊢; exact ⟨⟨⟨trivial, h.1.1.2⟩, h.1.2⟩, h.2⟩

theorem Memory.wfAbove_erase {m : Memory} {lo : Option Nat} (a : Nat) (h : m.wfAbove lo = true) :
    (m.erase a).wfAbove lo = true := by
  induction m generalizing lo with
  | nil => exact h
  | cons c m ih =>
    obtain ⟨k, v⟩ := c
    simp only [Memory.erase]
    simp only [Memory.wfAbove, Bool.and_eq_true, decide_eq_true_eq] at h
    split
    · refine ih ?_
      cases lo with
      | none => exact Memory.wfAbove_none h.2
      | some j => exact Memory.wfAbove_mono (Nat.le_of_lt (by simpa using h.1.1.1)) h.2
    · simp only [Memory.wfAbove, Bool.and_eq_true, decide_eq_true_eq]
      exact ⟨h.1, ih h.2⟩

theorem Memory.wfAbove_insert {m : Memory} {lo : Option Nat} {a : Nat} {v : Byte} (ha : a < 65536) (hv : v ≠ Memory.launch a)
    (hlo : ∀ j, lo = some j → j < a) (h : m.wfAbove lo = true) : (m.insert a v).wfAbove lo = true := by
  induction m generalizing lo with
  | nil =>
    cases lo <;> simp_all [Memory.insert, Memory.wfAbove]
  | cons c m ih =>
    obtain ⟨k, w⟩ := c
    simp only [Memory.wfAbove, Bool.and_eq_true, decide_eq_true_eq] at h
    simp only [Memory.insert]
    split
    · simp only [Memory.wfAbove, Bool.and_eq_true, decide_eq_true_eq]
      exact ⟨h.1, ih (by simpa using ‹k < a›) h.2⟩
    · split
      · rename_i hk
        subst hk
        simp only [Memory.wfAbove, Bool.and_eq_true, decide_eq_true_eq]
        exact ⟨⟨⟨h.1.1.1, ha⟩, hv⟩, h.2⟩
      · rename_i h1 h2
        simp only [Memory.wfAbove, Bool.and_eq_true, decide_eq_true_eq]
        refine ⟨⟨⟨?_, ha⟩, hv⟩, ⟨⟨by omega, h.1.1.2⟩, h.1.2⟩, h.2⟩
        cases lo with
        | none => rfl
        | some j => simpa using hlo j rfl

/-- A store keeps the canonical form. -/
theorem Memory.wf_set {m : Memory} {a : Nat} (v : Byte) (ha : a < 65536) (h : m.wf = true) : (m.set a v).wf = true := by
  unfold Memory.set
  split
  · exact Memory.wfAbove_erase a h
  · exact Memory.wfAbove_insert ha ‹_› (by simp) h

theorem Memory.wf_set_word {m : Memory} (a : Word) (v : Byte) (h : m.wf = true) : (m.set a.toNat v).wf = true :=
  Memory.wf_set v a.isLt h

/-- A well-formed list reads a key below its bound as the launch image. -/
theorem Memory.get_of_wfAbove {m : Memory} {j a : Nat} (h : m.wfAbove (some j) = true) (ha : a ≤ j) : m.get a = Memory.launch a := by
  induction m generalizing j with
  | nil => rfl
  | cons c m ih =>
    obtain ⟨k, v⟩ := c
    simp only [Memory.wfAbove, Bool.and_eq_true, decide_eq_true_eq] at h
    have hk := h.1.1.1
    simp only [Memory.get, if_neg (show ¬k = a by omega)]
    exact ih h.2 (by omega)

/-- Equal memories are equal lists: two canonical lists that read the same are the same. -/
theorem Memory.eq_of_get_eq {m m' : Memory} (h : m.wf = true) (h' : m'.wf = true) (e : ∀ a, a < 65536 → m.get a = m'.get a) :
    m = m' := by
  have key : ∀ (m m' : Memory) (lo : Option Nat), m.wfAbove lo = true → m'.wfAbove lo = true →
      (∀ a, a < 65536 → m.get a = m'.get a) → m = m' := by
    intro m
    induction m with
    | nil =>
      intro m' lo _ h' e
      cases m' with
      | nil => rfl
      | cons c m' =>
        obtain ⟨k, v⟩ := c
        simp only [Memory.wfAbove, Bool.and_eq_true, decide_eq_true_eq] at h'
        have := e k h'.1.1.2
        simp only [Memory.get, if_true] at this
        exact absurd this.symm h'.1.2
    | cons c m ih =>
      obtain ⟨k, v⟩ := c
      intro m' lo h h' e
      simp only [Memory.wfAbove, Bool.and_eq_true, decide_eq_true_eq] at h
      cases m' with
      | nil =>
        have := e k h.1.1.2
        simp only [Memory.get, if_true] at this
        exact absurd this h.1.2
      | cons c' m' =>
        obtain ⟨k', v'⟩ := c'
        simp only [Memory.wfAbove, Bool.and_eq_true, decide_eq_true_eq] at h'
        have hkk : k = k' := by
          rcases Nat.lt_trichotomy k k' with hlt | heq | hgt
          · have := e k h.1.1.2
            simp only [Memory.get, if_true, if_neg (show ¬k' = k by omega)] at this
            rw [Memory.get_of_wfAbove h'.2 (by omega)] at this
            exact absurd this h.1.2
          · exact heq
          · have := e k' h'.1.1.2
            simp only [Memory.get, if_true, if_neg (show ¬k = k' by omega)] at this
            rw [Memory.get_of_wfAbove h.2 (by omega)] at this
            exact absurd this.symm h'.1.2
        subst hkk
        have hv : v = v' := by
          have := e k h.1.1.2
          simpa only [Memory.get, if_true] using this
        subst hv
        congr 1
        refine ih m' (some k) h.2 h'.2 fun a ha => ?_
        by_cases hak : a = k
        · subst hak
          rw [Memory.get_of_wfAbove h.2 (Nat.le_refl _), Memory.get_of_wfAbove h'.2 (Nat.le_refl _)]
        · have := e a ha
          simpa only [Memory.get, if_neg (Ne.symm hak)] using this
  exact key m m' none h h' e

@[simp] theorem reset_mem_wf : State.reset.mem.wf = true := rfl

/-! ### Bytes and words of a state -/

theorem State.readByte_of_mem {s t : State} (h : t.mem = s.mem) (x : Word) : t.readByte x = s.readByte x := by
  simp [State.readByte, h]

theorem State.readByte_writeByte (s : State) (a x : Word) (v : Byte) :
    (s.writeByte a v).readByte x = if x = a then v else s.readByte x := by
  simp only [State.readByte, State.writeByte_mem, Memory.get_set, BitVec.toNat_inj]

theorem State.readByte_writeWord (s : State) (a x w : Word) :
    (s.writeWord a w).readByte x = if x = a + 1 then hiByte w else if x = a then loByte w else s.readByte x := by
  simp only [State.writeWord, State.readByte_writeByte]

theorem State.readByte_push (s : State) (x w : Word) :
    (s.push w).readByte x = if x = s.sp - 2 then loByte w else if x = s.sp - 1 then hiByte w else s.readByte x := by
  simp only [State.readByte, State.push_mem, Memory.get_set, BitVec.toNat_inj]

theorem State.readByte_call (s : State) (x w : Word) :
    (s.call w).readByte x = if x = s.sp - 2 then loByte s.pc else if x = s.sp - 1 then hiByte s.pc else s.readByte x := by
  simp only [State.readByte, State.call_mem, Memory.get_set, BitVec.toNat_inj]

/-! ### Updates that leave memory alone -/

@[simp] theorem State.readByte_setA (s : State) (v : Byte) (x : Word) : (s.setA v).readByte x = s.readByte x :=
  State.readByte_of_mem (by simp) x
@[simp] theorem State.readWord_setA (s : State) (v : Byte) (x : Word) : (s.setA v).readWord x = s.readWord x := by
  simp [State.readWord]
@[simp] theorem State.readByte_setF (s : State) (v : Flags) (x : Word) : (s.setF v).readByte x = s.readByte x :=
  State.readByte_of_mem (by simp) x
@[simp] theorem State.readWord_setF (s : State) (v : Flags) (x : Word) : (s.setF v).readWord x = s.readWord x := by
  simp [State.readWord]
@[simp] theorem State.readByte_setSp (s : State) (w : Word) (x : Word) : (s.setSp w).readByte x = s.readByte x :=
  State.readByte_of_mem (by simp) x
@[simp] theorem State.readWord_setSp (s : State) (w : Word) (x : Word) : (s.setSp w).readWord x = s.readWord x := by
  simp [State.readWord]
@[simp] theorem State.readByte_setPc (s : State) (w : Word) (x : Word) : (s.setPc w).readByte x = s.readByte x :=
  State.readByte_of_mem (by simp) x
@[simp] theorem State.readWord_setPc (s : State) (w : Word) (x : Word) : (s.setPc w).readWord x = s.readWord x := by
  simp [State.readWord]
@[simp] theorem State.readByte_popped (s : State) (x : Word) : (s.popped).readByte x = s.readByte x :=
  State.readByte_of_mem (by simp) x
@[simp] theorem State.readWord_popped (s : State) (x : Word) : (s.popped).readWord x = s.readWord x := by
  simp [State.readWord]
@[simp] theorem State.readByte_popPc (s : State) (x : Word) : (s.popPc).readByte x = s.readByte x :=
  State.readByte_of_mem (by simp) x
@[simp] theorem State.readWord_popPc (s : State) (x : Word) : (s.popPc).readWord x = s.readWord x := by
  simp [State.readWord]
@[simp] theorem State.readByte_jumpRelative (s : State) (e : Byte) (x : Word) : (s.jumpRelative e).readByte x = s.readByte x :=
  State.readByte_of_mem (by simp) x
@[simp] theorem State.readWord_jumpRelative (s : State) (e : Byte) (x : Word) : (s.jumpRelative e).readWord x = s.readWord x := by
  simp [State.readWord]
@[simp] theorem State.readByte_repeatInstr (s : State) (x : Word) : (s.repeatInstr).readByte x = s.readByte x :=
  State.readByte_of_mem (by simp) x
@[simp] theorem State.readWord_repeatInstr (s : State) (x : Word) : (s.repeatInstr).readWord x = s.readWord x := by
  simp [State.readWord]
@[simp] theorem State.readByte_swapBanks (s : State) (x : Word) : (s.swapBanks).readByte x = s.readByte x :=
  State.readByte_of_mem (by simp) x
@[simp] theorem State.readWord_swapBanks (s : State) (x : Word) : (s.swapBanks).readWord x = s.readWord x := by
  simp [State.readWord]
@[simp] theorem State.readByte_latchEa (s : State) (xy : Index) (d : Byte) (x : Word) : (s.latchEa xy d).readByte x = s.readByte x :=
  State.readByte_of_mem (by simp) x
@[simp] theorem State.readWord_latchEa (s : State) (xy : Index) (d : Byte) (x : Word) : (s.latchEa xy d).readWord x = s.readWord x := by
  simp [State.readWord]
@[simp] theorem State.readByte_stopWith (s : State) (t : TermReason) (x : Word) : (s.stopWith t).readByte x = s.readByte x :=
  State.readByte_of_mem (by simp) x
@[simp] theorem State.readWord_stopWith (s : State) (t : TermReason) (x : Word) : (s.stopWith t).readWord x = s.readWord x := by
  simp [State.readWord]
@[simp] theorem State.readByte_tick (s : State) (x : Word) : (s.tick).readByte x = s.readByte x :=
  State.readByte_of_mem (by simp) x
@[simp] theorem State.readWord_tick (s : State) (x : Word) : (s.tick).readWord x = s.readWord x := by
  simp [State.readWord]
@[simp] theorem State.readByte_advance (s : State) (e : Elem) (x : Word) : (s.advance e).readByte x = s.readByte x :=
  State.readByte_of_mem (by simp) x
@[simp] theorem State.readWord_advance (s : State) (e : Elem) (x : Word) : (s.advance e).readWord x = s.readWord x := by
  simp [State.readWord]
@[simp] theorem State.readByte_setReg8 (s : State) (q : Reg8) (v : Byte) (x : Word) : (s.setReg8 q v).readByte x = s.readByte x :=
  State.readByte_of_mem (by simp) x
@[simp] theorem State.readWord_setReg8 (s : State) (q : Reg8) (v : Byte) (x : Word) : (s.setReg8 q v).readWord x = s.readWord x := by
  simp [State.readWord]
@[simp] theorem State.readByte_setPair (s : State) (p : Pair) (w : Word) (x : Word) : (s.setPair p w).readByte x = s.readByte x :=
  State.readByte_of_mem (by simp) x
@[simp] theorem State.readWord_setPair (s : State) (p : Pair) (w : Word) (x : Word) : (s.setPair p w).readWord x = s.readWord x := by
  simp [State.readWord]
@[simp] theorem State.readByte_setStackPair (s : State) (p : StackPair) (w : Word) (x : Word) : (s.setStackPair p w).readByte x = s.readByte x :=
  State.readByte_of_mem (by simp) x
@[simp] theorem State.readWord_setStackPair (s : State) (p : StackPair) (w : Word) (x : Word) : (s.setStackPair p w).readWord x = s.readWord x := by
  simp [State.readWord]
@[simp] theorem State.readByte_setIndex (s : State) (xy : Index) (w : Word) (x : Word) : (s.setIndex xy w).readByte x = s.readByte x :=
  State.readByte_of_mem (by simp) x
@[simp] theorem State.readWord_setIndex (s : State) (xy : Index) (w : Word) (x : Word) : (s.setIndex xy w).readWord x = s.readWord x := by
  simp [State.readWord]
@[simp] theorem State.readByte_setHalf (s : State) (xy : Index) (h : Half) (v : Byte) (x : Word) : (s.setHalf xy h v).readByte x = s.readByte x :=
  State.readByte_of_mem (by simp) x
@[simp] theorem State.readWord_setHalf (s : State) (xy : Index) (h : Half) (v : Byte) (x : Word) : (s.setHalf xy h v).readWord x = s.readWord x := by
  simp [State.readWord]
@[simp] theorem State.readByte_setIdxReg8 (s : State) (xy : Index) (p : IdxReg8) (v : Byte) (x : Word) : (s.setIdxReg8 xy p v).readByte x = s.readByte x :=
  State.readByte_of_mem (by simp) x
@[simp] theorem State.readWord_setIdxReg8 (s : State) (xy : Index) (p : IdxReg8) (v : Byte) (x : Word) : (s.setIdxReg8 xy p v).readWord x = s.readWord x := by
  simp [State.readWord]
@[simp] theorem State.readByte_locate (s : State) (o : Operand) (x : Word) : (s.locate o).readByte x = s.readByte x :=
  State.readByte_of_mem (by simp) x
@[simp] theorem State.readWord_locate (s : State) (o : Operand) (x : Word) : (s.locate o).readWord x = s.readWord x := by
  simp [State.readWord]

/-- A run of bytes stored from `a` on: each address holds its own byte, every other address is as before. -/
theorem State.readByte_placeBytes (s : State) (a x : Word) (vs : List Byte) (hn : vs.length ≤ 65536) :
    (s.placeBytes a vs).readByte x = if (x - a).toNat < vs.length then vs.getD (x - a).toNat 0 else s.readByte x := by
  induction vs generalizing s a with
  | nil => simp [State.placeBytes]
  | cons v vs ih =>
    have hlt : (x - a).toNat < 65536 := (x - a).isLt
    rw [State.placeBytes, ih _ _ (by simp at hn; omega), State.readByte_writeByte]
    by_cases hx : x = a
    · subst hx
      have h1 : (x - (x + 1)).toNat = 65535 := by
        rw [show x - (x + 1) = (-1 : Word) by bv_omega]; rfl
      simp only [List.length_cons] at hn
      rw [h1, if_neg (by omega)]; simp
    · have h0 : (x - a).toNat ≠ 0 := fun h => hx (by bv_omega)
      have h1 : (x - (a + 1)).toNat = (x - a).toNat - 1 := by bv_omega
      obtain ⟨n, hk⟩ := Nat.exists_eq_succ_of_ne_zero h0
      rw [h1, hk]; simp [hx]

/-- The same for a run that does not wrap, with the addresses as numbers. -/
theorem State.readByte_placeBytes_of_le (s : State) (a x : Word) (vs : List Byte) (h : a.toNat + vs.length ≤ 65536) :
    (s.placeBytes a vs).readByte x =
      if a.toNat ≤ x.toNat ∧ x.toNat < a.toNat + vs.length then vs.getD (x.toNat - a.toNat) 0 else s.readByte x := by
  have hx := x.isLt
  rw [State.readByte_placeBytes s a x vs (by omega), BitVec.toNat_sub]
  by_cases hle : a.toNat ≤ x.toNat
  · rw [show (2 ^ 16 - a.toNat + x.toNat) % 2 ^ 16 = x.toNat - a.toNat by omega]
    by_cases hlt : x.toNat - a.toNat < vs.length
    · rw [if_pos hlt, if_pos (by omega)]
    · rw [if_neg hlt, if_neg (by omega)]
  · rw [if_neg (by omega), if_neg (by omega)]

/-- Stores to other addresses leave a byte. -/
theorem State.readByte_writeBytes (s : State) (ws : List (Word × Byte)) (x : Word) (h : ∀ w ∈ ws, w.1 ≠ x) :
    (s.writeBytes ws).readByte x = s.readByte x := by
  induction ws generalizing s with
  | nil => rfl
  | cons w ws ih =>
    rw [State.writeBytes, ih _ fun v hv => h v (List.mem_cons_of_mem _ hv), State.readByte_writeByte,
      if_neg fun e => h w List.mem_cons_self e.symm]

/-- Confined stores leave every byte outside their region. -/
theorem State.readByte_writeBytes_confine (s : State) (inside : Word → Bool) (ws : List (Word × Byte)) (x : Word)
    (h : inside x = false) : (s.writeBytes (confine inside ws)).readByte x = s.readByte x :=
  State.readByte_writeBytes s _ x fun w hw e => by
    have := (List.mem_filter.1 hw).2
    rw [e, h] at this
    exact Bool.false_ne_true this

/-! ### Every memory operation keeps the canonical form -/

@[simp] theorem State.wf_writeByte {s : State} (a : Word) (v : Byte) (h : s.mem.wf = true) : (s.writeByte a v).mem.wf = true :=
  Memory.wf_set_word a v h

@[simp] theorem State.wf_writeWord {s : State} (a w : Word) (h : s.mem.wf = true) : (s.writeWord a w).mem.wf = true := by
  rw [State.writeWord_mem]; exact Memory.wf_set_word _ _ (Memory.wf_set_word _ _ h)

@[simp] theorem State.wf_push {s : State} (w : Word) (h : s.mem.wf = true) : (s.push w).mem.wf = true := by
  rw [State.push_mem]; exact Memory.wf_set_word _ _ (Memory.wf_set_word _ _ h)

@[simp] theorem State.wf_call {s : State} (w : Word) (h : s.mem.wf = true) : (s.call w).mem.wf = true := by
  rw [State.call_mem]; exact Memory.wf_set_word _ _ (Memory.wf_set_word _ _ h)

@[simp] theorem State.wf_store {s : State} (o : Operand) (v : Byte) (h : s.mem.wf = true) : (s.store o v).mem.wf = true := by
  cases o <;> simp [State.store, Memory.wf_set_word, h]

theorem State.wf_writeBytes {s : State} (ws : List (Word × Byte)) (h : s.mem.wf = true) : (s.writeBytes ws).mem.wf = true := by
  induction ws generalizing s with
  | nil => exact h
  | cons w ws ih => exact ih (State.wf_writeByte w.1 w.2 h)

theorem State.wf_placeBytes {s : State} (a : Word) (vs : List Byte) (h : s.mem.wf = true) : (s.placeBytes a vs).mem.wf = true := by
  induction vs generalizing s a with
  | nil => exact h
  | cons v vs ih => exact ih (a + 1) (State.wf_writeByte a v h)

theorem State.wf_placeRegions {s : State} (rs : List (Word × List Byte)) (h : s.mem.wf = true) : (s.placeRegions rs).mem.wf = true := by
  induction rs generalizing s with
  | nil => exact h
  | cons r rs ih => exact ih (State.wf_placeBytes r.1 r.2 h)

end Sys2Proof.Machine
end

