-- ==== Sys2Proof/Laws/Ops.lean ====
section
/-! SUPPORT. One lemma for each shared operation that says what it does; callers cite it and do not unfold the operation. -/

namespace Sys2Proof

/-! ### Byte order (R8, R10) -/

@[simp] theorem hiByte_joinBytes (h l : Byte) : hiByte (joinBytes h l) = h := by
  apply BitVec.eq_of_getLsbD_eq
  intro i hi
  simp only [hiByte, joinBytes, BitVec.getLsbD_extractLsb', BitVec.getLsbD_append]
  simp [hi]

@[simp] theorem loByte_joinBytes (h l : Byte) : loByte (joinBytes h l) = l := by
  apply BitVec.eq_of_getLsbD_eq
  intro i hi
  simp only [loByte, joinBytes, BitVec.getLsbD_extractLsb', BitVec.getLsbD_append]
  simp [hi]

@[simp] theorem joinBytes_hi_lo (w : Word) : joinBytes (hiByte w) (loByte w) = w := by
  apply BitVec.eq_of_getLsbD_eq
  intro i hi
  simp only [hiByte, loByte, joinBytes, BitVec.getLsbD_extractLsb', BitVec.getLsbD_append]
  by_cases h : i < 8
  · simp [h]
  · have h8 : i - 8 < 8 := by omega
    have hs : 8 + (i - 8) = i := by omega
    simp [h, h8, hs]

theorem joinBytes_toNat (h l : Byte) : (joinBytes h l).toNat = 256 * h.toNat + l.toNat := by
  rw [joinBytes, BitVec.toNat_append, ← Nat.shiftLeft_add_eq_or_of_lt l.isLt, Nat.shiftLeft_eq]; omega

end Sys2Proof

namespace Sys2Proof.Machine

/-! ### Registers -/

/-- A write to an 8-bit register is read back from it, and every other register is unchanged. -/
theorem State.reg8_setReg8 (s : State) (r q : Reg8) (v : Byte) : (s.setReg8 r v).reg8 q = if q = r then v else s.reg8 q := by
  cases r <;> cases q <;> rfl

@[simp] theorem State.pair_setPair (s : State) (p : Pair) (w : Word) : (s.setPair p w).pair p = w := by
  cases p <;> simp [State.setPair, State.pair, State.bc, State.de, State.hl]

theorem State.pair_setPair_ne (s : State) {p q : Pair} (w : Word) (h : q ≠ p) : (s.setPair p w).pair q = s.pair q := by
  cases p <;> cases q <;> first | contradiction | rfl

@[simp] theorem State.index_setIndex (s : State) (xy : Index) (w : Word) : (s.setIndex xy w).index xy = w := by
  cases xy <;> rfl

theorem State.index_setIndex_ne (s : State) {xy zw : Index} (w : Word) (h : zw ≠ xy) :
    (s.setIndex xy w).index zw = s.index zw := by
  cases xy <;> cases zw <;> first | contradiction | rfl

/-- The written half reads back, the other half is unchanged (R166). -/
theorem State.half_setHalf (s : State) (xy : Index) (h k : Half) (v : Byte) :
    (s.setHalf xy h v).half xy k = if k = h then v else s.half xy k := by
  cases h <;> cases k <;> simp [State.setHalf, State.half]

@[simp] theorem State.swapBanks_swapBanks (s : State) : s.swapBanks.swapBanks = s := rfl

/-! ### The flag byte (R36) -/

@[simp] theorem Flags.ofByte_toByte (f : Flags) : Flags.ofByte f.toByte = f := by
  obtain ⟨a, b, c, d, e, g, h, i⟩ := f
  cases a <;> cases b <;> cases c <;> cases d <;> cases e <;> cases g <;> cases h <;> cases i <;> rfl

@[simp] theorem Flags.toByte_ofByte : ∀ v : Byte, (Flags.ofByte v).toByte = v := by decide

/-! ### The stack (R35) -/

/-- What a push stored is what a pop would read. -/
@[simp] theorem State.readWord_push (s : State) (w : Word) : (s.push w).readWord (s.push w).sp = w := by
  have h : s.sp - 2 + 1 = s.sp - 1 := by bv_omega
  have h' : s.sp - 1 ≠ s.sp - 2 := by bv_omega
  simp only [State.readWord, State.push_sp, State.readByte_push, h, h', if_true, if_false, joinBytes_hi_lo]

/-- A word read back after a store of a word at the same address. -/
@[simp] theorem State.readWord_writeWord (s : State) (a w : Word) : (s.writeWord a w).readWord a = w := by
  have h : a ≠ a + 1 := by bv_omega
  simp only [State.readWord, State.readByte_writeWord, h, if_true, if_false, joinBytes_hi_lo]

/-! ### Operand forms -/

@[simp] theorem State.store_reg (s : State) (r : Reg8) (v : Byte) : s.store (.reg r) v = s.setReg8 r v := rfl
@[simp] theorem State.store_atHl (s : State) (v : Byte) : s.store .atHl v = s.writeByte s.hl v := rfl
@[simp] theorem State.store_imm (s : State) (n v : Byte) : s.store (.imm n) v = s := rfl
@[simp] theorem State.store_half (s : State) (xy : Index) (h : Half) (v : Byte) : s.store (.half xy h) v = s.setHalf xy h v := rfl
@[simp] theorem State.store_atIndexed (s : State) (xy : Index) (d v : Byte) :
    s.store (.atIndexed xy d) v = s.writeByte (s.ea xy d) v := rfl

@[simp] theorem State.locate_reg (s : State) (r : Reg8) : s.locate (.reg r) = s := rfl
@[simp] theorem State.locate_atHl (s : State) : s.locate .atHl = s := rfl
@[simp] theorem State.locate_imm (s : State) (n : Byte) : s.locate (.imm n) = s := rfl
@[simp] theorem State.locate_half (s : State) (xy : Index) (h : Half) : s.locate (.half xy h) = s := rfl
@[simp] theorem State.locate_atIndexed (s : State) (xy : Index) (d : Byte) : s.locate (.atIndexed xy d) = s.latchEa xy d := rfl

@[simp] theorem State.load_reg (s : State) (r : Reg8) : s.load (.reg r) = s.reg8 r := rfl
@[simp] theorem State.load_atHl (s : State) : s.load .atHl = s.readByte s.hl := rfl
@[simp] theorem State.load_imm (s : State) (n : Byte) : s.load (.imm n) = n := rfl
@[simp] theorem State.load_half (s : State) (xy : Index) (h : Half) : s.load (.half xy h) = s.half xy h := rfl
@[simp] theorem State.load_atIndexed (s : State) (xy : Index) (d : Byte) :
    s.load (.atIndexed xy d) = s.readByte (s.ea xy d) := rfl

/-- Locating an operand writes the latch of an indexed form and nothing else (R47). -/
theorem State.locate_eq (s : State) (o : Operand) :
    s.locate o = match o with
      | .atIndexed xy d => { s with latch := s.index xy + sext8 d }
      | _ => s := by
  cases o <;> rfl

/-- The cell a form stores to. -/
def State.cellOf (s : State) : Operand → Option Word
  | .atHl => some s.hl
  | .atIndexed xy d => some (s.ea xy d)
  | _ => none

/-- A write to an operand changes the byte of its cell, if it has one, and no other byte. -/
theorem State.readByte_store (s : State) (o : Operand) (v : Byte) (x : Word) :
    (s.store o v).readByte x = if s.cellOf o = some x then v else s.readByte x := by
  cases o <;> simp [State.store, State.cellOf, State.readByte, Memory.get_set, eq_comm,
    ← BitVec.toNat_inj]

/-! ### The repeat mechanism (R260) -/

/-- A block instruction goes back by two or not at all; nothing else changes. -/
theorem repeatBlock_eq (again : State → Bool) (s : State) :
    repeatBlock again s = { s with pc := if again s then s.pc - 2 else s.pc } := by
  unfold repeatBlock; split <;> rfl

/-! ### The trap (R562, R563) -/

/-- What a handler writes, field by field; memory through `writeBytes`. -/
theorem State.applyTrap_eq (s : State) (e : TrapEffect) :
    s.applyTrap e =
      { s.writeBytes e.writes with
        a := e.a, b := e.b, h := e.h, l := e.l, env := e.env, dma := e.dma.getD s.dma,
        terminate := s.terminate || e.stop.isSome,
        termReason := (e.stop.map StopReason.toTermReason).getD s.termReason } := by
  unfold State.applyTrap
  cases h : e.stop <;> simp only [State.stopWith, Option.isSome_none, Option.isSome_some, Bool.or_false, Bool.or_true,
    Option.map_none, Option.map_some, Option.getD_none, Option.getD_some]
  rw [← State.writeBytes_terminate s e.writes, ← State.writeBytes_termReason s e.writes]

/-- Taking the trap: the handler's effect, then the operation of `RET` on the memory the handler leaves. -/
theorem takeTrap_eq (e : TrapEffect) (s : State) :
    takeTrap e s = { s.applyTrap e with pc := (s.applyTrap e).readWord (s.applyTrap e).sp, sp := (s.applyTrap e).sp + 2 } := by
  simp only [takeTrap, trapReturn, State.popPc, State.popped, State.setPc, State.setSp]

/-- A handler that runs into its end ends the run by a reason of its own, never by the signal's. -/
theorem StopReason.toTermReason_ne (r : StopReason) : r.toTermReason ≠ .okNotRun ∧ r.toTermReason ≠ .errSignal := by
  cases r <;> simp [StopReason.toTermReason]

/-- The race of a handler's reason with a signal's changes `term_reason` alone, and only in a state that has ended (R590). -/
theorem EnvResponse.race_eq (r : EnvResponse) (t : State) :
    r.race t =
      { t with termReason := if t.terminate && t.signal == some 0 && r.signalWins then .errSignal else t.termReason } := by
  unfold EnvResponse.race State.stopWith
  split
  · rename_i h
    simp only [Bool.and_eq_true] at h
    rw [← h.1.1]
  · rfl

/-! ### The fetch and the cycle (R101) -/

/-- An element that only selects a plane: its effect is the plane of the next byte. -/
theorem exec_of_isPrefix {i : Instr} (s : State) (h : i.isPrefix = true) : exec i s = .next { s with plane := i.nextPlane } := by
  cases i <;> first | exact absurd h Bool.false_ne_true | rfl

/-- A cycle goes on behind a plane-selecting byte. -/
theorem instructionCycle_of_isPrefix (n : Nat) (s : State) (h : (fetchElem s).instr.isPrefix = true) :
    instructionCycle (n + 1) s = instructionCycle n { s.advance (fetchElem s) with plane := (fetchElem s).instr.nextPlane } := by
  rw [instructionCycle]; simp only [h, if_true, exec_of_isPrefix _ h]

/-- A cycle ends with the first element that is an instruction. -/
theorem instructionCycle_of_not_isPrefix (n : Nat) (s : State) (h : (fetchElem s).instr.isPrefix = false) :
    instructionCycle (n + 1) s = exec (fetchElem s).instr (s.advance (fetchElem s)) := by
  rw [instructionCycle]; simp [h]

@[simp] theorem State.length_codeBytes (s : State) (n : Nat) : (s.codeBytes n).length = n := by
  induction n generalizing s with
  | zero => rfl
  | succ n ih => simp [State.codeBytes, ih]

/-- The bytes at `PC` depend on memory and `PC` alone. -/
theorem State.codeBytes_congr {s t : State} (hm : t.mem = s.mem) (hp : t.pc = s.pc) (n : Nat) : t.codeBytes n = s.codeBytes n := by
  induction n generalizing s t with
  | zero => rfl
  | succ n ih => simp only [State.codeBytes, State.readByte, hm, hp]; congr 1; exact ih rfl rfl

end Sys2Proof.Machine
end

