-- ==== Sys2Proof/Laws/Families.lean ====
section
/-! SUPPORT. For each operation a family's meanings share, the whole state it leaves, in one equation. -/

namespace Sys2Proof.Machine

/-! ### Loads -/

theorem loadIndexed_eq (xy : Index) (r : Reg8) (d : Byte) (s : State) :
    loadIndexed xy r d s = { s.setReg8 r (s.readByte (s.ea xy d)) with latch := s.ea xy d } := by
  cases r <;> rfl

theorem storeIndexed_eq (xy : Index) (d v : Byte) (s : State) :
    storeIndexed xy d v s = { s.writeByte (s.ea xy d) v with latch := s.ea xy d } := rfl

theorem loadAWithIff_eq (v : Byte) (s : State) : loadAWithIff v s = { s with a := v, f := s.f.loadIff v s.iff } := rfl

/-! ### 8-bit arithmetic -/

theorem alu_eq (op : AluOp) (o : Operand) (s : State) :
    alu op o s =
      { s with a := (op.run s.a (s.load o) s.f).1, f := (op.run s.a (s.load o) s.f).2, latch := (s.locate o).latch } := by
  cases o <;> rfl

theorem incOperand_eq (o : Operand) (s : State) :
    incOperand o s = { s.store o (s.load o + 1) with f := s.f.inc (s.load o), latch := (s.locate o).latch } := by
  cases o with
  | reg r => cases r <;> rfl
  | half xy h => cases xy <;> cases h <;> rfl
  | _ => rfl

theorem decOperand_eq (o : Operand) (s : State) :
    decOperand o s = { s.store o (s.load o - 1) with f := s.f.dec (s.load o), latch := (s.locate o).latch } := by
  cases o with
  | reg r => cases r <;> rfl
  | half xy h => cases xy <;> cases h <;> rfl
  | _ => rfl

/-! ### 16-bit arithmetic -/

theorem addHl_eq (v : Word) (s : State) :
    addHl v s = { s with h := hiByte (s.f.add16 s.hl v).1, l := loByte (s.f.add16 s.hl v).1, f := (s.f.add16 s.hl v).2 } := rfl

theorem addIndex_eq (xy : Index) (v : Word) (s : State) :
    addIndex xy v s = { s.setIndex xy (s.f.add16 (s.index xy) v).1 with f := (s.f.add16 (s.index xy) v).2 } := rfl

theorem adcHl_eq (v : Word) (s : State) :
    adcHl v s =
      { s with
        h := hiByte (Flags.adc16 s.hl v s.f.c).1, l := loByte (Flags.adc16 s.hl v s.f.c).1,
        f := (Flags.adc16 s.hl v s.f.c).2 } := rfl

theorem sbcHl_eq (v : Word) (s : State) :
    sbcHl v s =
      { s with
        h := hiByte (Flags.sbc16 s.hl v s.f.c).1, l := loByte (Flags.sbc16 s.hl v s.f.c).1,
        f := (Flags.sbc16 s.hl v s.f.c).2 } := rfl

/-! ### Rotates, shifts, bits -/

theorem rotate_eq (op : RotOp) (o : Operand) (s : State) :
    rotate op o s =
      { s.store o (op.run (s.load o) s.f.c).1 with
        f := s.f.rotate (op.run (s.load o) s.f.c).1 (op.run (s.load o) s.f.c).2, latch := (s.locate o).latch } := by
  cases o with
  | reg r => cases r <;> rfl
  | half xy h => cases xy <;> cases h <;> rfl
  | _ => rfl

theorem rotateCopy_eq (op : RotOp) (xy : Index) (d : Byte) (r : Reg8) (s : State) :
    rotateCopy op xy d r s = (rotate op (.atIndexed xy d) s).setReg8 r (op.run (s.readByte (s.ea xy d)) s.f.c).1 := rfl

theorem modifyBit_eq (change : Byte → Byte) (o : Operand) (s : State) :
    modifyBit change o s = { s.store o (change (s.load o)) with latch := (s.locate o).latch } := by
  cases o with
  | reg r => cases r <;> rfl
  | half xy h => cases xy <;> cases h <;> rfl
  | _ => rfl

theorem modifyBitCopy_eq (change : Byte → Byte) (xy : Index) (d : Byte) (r : Reg8) (s : State) :
    modifyBitCopy change xy d r s = (modifyBit change (.atIndexed xy d) s).setReg8 r (change (s.readByte (s.ea xy d))) := rfl

theorem bitIndexed_eq (xy : Index) (b : Fin 8) (d : Byte) (s : State) :
    bitIndexed xy b d s = { s with f := s.f.bitLatch (s.readByte (s.ea xy d)) b (s.ea xy d), latch := s.ea xy d } := rfl

/-! ### Block instructions -/

theorem blockLoad_eq (dir : Direction) (s : State) :
    blockLoad dir s =
      { s with
        mem := s.mem.set s.de.toNat (s.readByte s.hl),
        h := hiByte (dir.move s.hl), l := loByte (dir.move s.hl), d := hiByte (dir.move s.de), e := loByte (dir.move s.de),
        b := hiByte (s.bc - 1), c := loByte (s.bc - 1), f := s.f.blockLoad (s.readByte s.hl) s.a (s.bc - 1) } := by
  simp only [blockLoad, State.writeByte, State.setPair, State.setF]

theorem blockCompare_eq (dir : Direction) (s : State) :
    blockCompare dir s =
      { s with
        h := hiByte (dir.move s.hl), l := loByte (dir.move s.hl), b := hiByte (s.bc - 1), c := loByte (s.bc - 1),
        f := s.f.blockCompare (s.readByte s.hl) s.a (s.bc - 1) } := rfl

theorem blockIn_eq (dir : Direction) (s : State) :
    blockIn dir s =
      { s with
        mem := s.mem.set s.hl.toNat 0, h := hiByte (dir.move s.hl), l := loByte (dir.move s.hl), b := s.b - 1,
        f := s.f.blockIo (s.b - 1) 0 (match dir with
          | .up => s.c + 1
          | .down => s.c - 1).toNat } := by
  cases dir <;> simp [blockIn, portRead, State.writeByte, State.setReg8, State.setPair, State.setF]

theorem blockOut_eq (dir : Direction) (s : State) :
    blockOut dir s =
      { s with
        h := hiByte (dir.move s.hl), l := loByte (dir.move s.hl), b := s.b - 1,
        f := s.f.blockIo (s.b - 1) (s.readByte s.hl) ((s.readByte s.hl).toNat + (loByte (dir.move s.hl)).toNat) } := rfl

/-! ### Control -/

theorem decrementAndJump_eq (e : Byte) (s : State) :
    decrementAndJump e s = { s with b := s.b - 1, pc := if s.b = 1 then s.pc else s.pc + sext8 e } := by
  have h : s.b - 1 = 0 ↔ s.b = 1 := by constructor <;> intro h <;> bv_omega
  unfold decrementAndJump
  by_cases hb : s.b = 1
  · simp only [if_pos hb, if_pos (h.2 hb)]; rfl
  · simp only [if_neg hb, if_neg (mt h.1 hb)]; rfl

theorem haltAt_eq (mode : Config.HaltMode) (s : State) :
    haltAt mode s = { s with pc := if mode = .spin then s.pc - 1 else s.pc } := by
  cases mode <;> rfl

end Sys2Proof.Machine
end

