-- ==== Sys2Proof/Laws/Launch.lean ====
section
/-! SUPPORT. What the launch leaves in memory, address by address, and in the registers. -/

namespace Sys2Proof.Machine

@[simp] theorem length_wordLowFirst (w : Word) : (wordLowFirst w).length = 2 := rfl
@[simp] theorem length_jumpTo (w : Word) : (jumpTo w).length = 3 := rfl
@[simp] theorem length_biosEntries : biosEntries.length = 54 := rfl

/-- The bytes of the BIOS vector's entry `k` (R80). -/
theorem getD_biosEntries : ∀ k : Fin 18,
    biosEntries.getD (3 * k) 0 = 0xC3 ∧
      joinBytes (biosEntries.getD (3 * k + 2) 0) (biosEntries.getD (3 * k + 1) 0) = BitVec.ofNat 16 (0xFFEE + k) := by decide

/-- Placing bytes changes memory alone. -/
theorem State.placeBytes_eq (s : State) (a : Word) (vs : List Byte) :
    s.placeBytes a vs = { s with mem := (s.placeBytes a vs).mem } := by
  induction vs generalizing s a with
  | nil => rfl
  | cons v vs ih => rw [State.placeBytes, ih]; rfl

/-- Placing regions changes memory alone. -/
theorem State.placeRegions_eq (s : State) (rs : List (Word × List Byte)) :
    s.placeRegions rs = { s with mem := (s.placeRegions rs).mem } := by
  induction rs generalizing s with
  | nil => rfl
  | cons r rs ih => rw [State.placeRegions, ih, State.placeBytes_eq]

/-- The reset layout meets the spec's conditions. -/
theorem layoutOk_resetLayout : layoutOk Config.resetLayout = true := by decide

/-- A launch state exists exactly when the layout and the program meet their bounds (R622, D19), and it is the placing of its regions. -/
theorem launchState_eq_some (any t : State) (y : Config.Layout) (l : Launch) :
    launchState any y l = some t ↔
      (layoutOk y = true ∧ l.fits y = true) ∧ (launchRegisters any y).placeRegions (layoutRegions y ++ l.regions y) = t := by
  unfold launchState; split <;> simp_all

/-- The conditions of `layoutOk` on places, as inequalities of numbers. -/
theorem places_of_layoutOk {y : Config.Layout} (h : layoutOk y = true) :
    (0x00FF ≤ y.tpaEnd.toNat ∧ y.tpaEnd.toNat < y.bdosStart.toNat ∧ y.tpaEnd.toNat < y.dpbStart.toNat ∧
      y.tpaEnd.toNat < y.alvStart.toNat) ∧
    (y.bdosStart.toNat + 11 ≤ y.biosVector.toNat ∧ y.dpbStart.toNat + 15 ≤ y.biosVector.toNat ∧
      y.alvStart.toNat + 64 ≤ y.biosVector.toNat) ∧
    (y.biosVector.toNat + 54 ≤ y.serialNumber.toNat ∧ y.biosVector.toNat + 68 ≤ y.spInit.toNat) ∧
    y.serialNumber.toNat + 6 ≤ 0xFFED ∧ y.spInit.toNat + 2 ≤ 0xFFED := by
  simp only [layoutOk, Bool.and_eq_true, decide_eq_true_eq, BitVec.lt_def, BitVec.le_def] at h
  obtain ⟨⟨⟨⟨⟨⟨⟨⟨⟨⟨⟨⟨⟨⟨⟨-, h1⟩, h2⟩, -⟩, h3⟩, h4⟩, h5⟩, h6⟩, h7⟩, -⟩, -⟩, -⟩, h8⟩, h9⟩, h10⟩, h11⟩ := h
  exact ⟨⟨h11, h8, h9, h10⟩, ⟨h5, h6, h7⟩, ⟨h3, by omega⟩, h1, h2⟩

/-- Memory after the placing, under any layout: the last region that holds an address says its byte, any other address is as before. -/
theorem State.readByte_placeRegions (s : State) {y : Config.Layout} {l : Launch} (x : Word) (hy : layoutOk y = true)
    (hf : l.fits y = true) :
    (s.placeRegions (layoutRegions y ++ l.regions y)).readByte x =
      if y.alvStart.toNat ≤ x.toNat ∧ x.toNat < y.alvStart.toNat + 64 then l.alv.getD (x.toNat - y.alvStart.toNat) 0
      else if y.dpbStart.toNat ≤ x.toNat ∧ x.toNat < y.dpbStart.toNat + 15 then l.dpb.getD (x.toNat - y.dpbStart.toNat) 0
      else if 0x0100 ≤ x.toNat ∧ x.toNat < 0x0100 + l.program.length then l.program.getD (x.toNat - 0x0100) 0
      else if 0x0080 ≤ x.toNat ∧ x.toNat < 0x0080 + (l.tail.length + 1) then
        (BitVec.ofNat 8 l.tail.length :: l.tail).getD (x.toNat - 0x0080) 0
      else if 0x006C ≤ x.toNat ∧ x.toNat < 0x006C + 16 then l.fcb2.getD (x.toNat - 0x006C) 0
      else if 0x005C ≤ x.toNat ∧ x.toNat < 0x005C + 16 then l.fcb1.getD (x.toNat - 0x005C) 0
      else if 0x0004 ≤ x.toNat ∧ x.toNat < 0x0004 + 1 then [l.driveUser].getD (x.toNat - 0x0004) 0
      else if 0xFFED ≤ x.toNat ∧ x.toNat < 0xFFED + 19 then (List.replicate 19 (0xC9 : Byte)).getD (x.toNat - 0xFFED) 0
      else if y.spInit.toNat ≤ x.toNat ∧ x.toNat < y.spInit.toNat + 2 then
        (wordLowFirst y.wbootReturn).getD (x.toNat - y.spInit.toNat) 0
      else if y.serialNumber.toNat ≤ x.toNat ∧ x.toNat < y.serialNumber.toNat + 6 then
        ([0x00, 0x16, 0x00, 0xC0, 0xFF, 0xEE] : List Byte).getD (x.toNat - y.serialNumber.toNat) 0
      else if y.biosVector.toNat ≤ x.toNat ∧ x.toNat < y.biosVector.toNat + 54 then
        biosEntries.getD (x.toNat - y.biosVector.toNat) 0
      else if y.bdosStart.toNat ≤ x.toNat ∧ x.toNat < y.bdosStart.toNat + 3 then
        (jumpTo Config.magicAddress).getD (x.toNat - y.bdosStart.toNat) 0
      else if 0x0005 ≤ x.toNat ∧ x.toNat < 0x0005 + 3 then (jumpTo y.bdosStart).getD (x.toNat - 0x0005) 0
      else if 0x0000 ≤ x.toNat ∧ x.toNat < 0x0000 + 4 then (jumpTo y.wbootTarget ++ [0x00]).getD (x.toNat - 0x0000) 0
      else s.readByte x := by
  obtain ⟨⟨p1, p2, p3, p4⟩, ⟨q1, q2, q3⟩, ⟨r1, r2⟩, u1, u2⟩ := places_of_layoutOk hy
  simp only [Launch.fits, Bool.and_eq_true, decide_eq_true_eq] at hf
  obtain ⟨⟨⟨⟨⟨⟨hp, h1⟩, h2⟩, h3⟩, -⟩, h4⟩, h5⟩ := hf
  have hb := y.tpaEnd.isLt
  have e1 : (0x0100 : Word).toNat = 0x0100 := rfl
  have e2 : (0x0080 : Word).toNat = 0x0080 := rfl
  have e3 : (0x006C : Word).toNat = 0x006C := rfl
  have e4 : (0x005C : Word).toNat = 0x005C := rfl
  have e5 : (0x0004 : Word).toNat = 0x0004 := rfl
  have e6 : Config.magicAddress.toNat = 0xFFED := rfl
  have e7 : (0x0005 : Word).toNat = 0x0005 := rfl
  have e8 : (0x0000 : Word).toNat = 0x0000 := rfl
  simp only [layoutRegions, Launch.regions, List.cons_append, List.nil_append, State.placeRegions]
  rw [State.readByte_placeBytes_of_le _ _ _ _ (by omega), State.readByte_placeBytes_of_le _ _ _ _ (by omega),
    State.readByte_placeBytes_of_le _ _ _ _ (by omega),
    State.readByte_placeBytes_of_le _ _ _ _ (by simp only [List.length_cons]; omega),
    State.readByte_placeBytes_of_le _ _ _ _ (by omega), State.readByte_placeBytes_of_le _ _ _ _ (by omega),
    State.readByte_placeBytes_of_le _ _ _ _ (by simp)]
  rw [State.readByte_placeBytes_of_le _ _ _ _ (by simp [e6]),
    State.readByte_placeBytes_of_le _ _ _ _ (by simp only [length_wordLowFirst]; omega),
    State.readByte_placeBytes_of_le _ _ _ _ (by simp only [List.length_cons, List.length_nil]; omega),
    State.readByte_placeBytes_of_le _ _ _ _ (by simp only [length_biosEntries]; omega),
    State.readByte_placeBytes_of_le _ _ _ _ (by simp only [length_jumpTo]; omega),
    State.readByte_placeBytes_of_le _ _ _ _ (by simp), State.readByte_placeBytes_of_le _ _ _ _ (by simp)]
  simp only [h1, h2, h4, h5, List.length_cons, List.length_nil, List.length_append, length_jumpTo, length_wordLowFirst,
    length_biosEntries, List.length_replicate, e1, e2, e3, e4, e5, e6, e7, e8, Nat.reduceAdd]

end Sys2Proof.Machine
end

