-- ==== Sys2Proof/Tests/Slice0.lean ====
section
/-! SUPPORT. The model's own tests: the checks of WellFormed refuse, every constructor's word decodes, one step of an instruction against a
vector of spec/95_test_vectors.md, and a state that meets the hypotheses of each statement. -/

namespace Sys2Proof.Tests

open Sys2Proof.Machine Sys2Proof.Claims

/-! ### WellFormed: each check refuses an ill-formed term, and admits the boundary of what it should -/

theorem test_refuses_nopEd_of_an_assigned_opcode :
    (Instr.nopEd 0x40).wellFormed = false ∧ (Instr.nopEd 0xA3).wellFormed = false ∧ (Instr.nopEd 0xBB).wellFormed = false := by decide

theorem test_refuses_im0_with_the_code_of_im1 : (Instr.im0 2).wellFormed = false ∧ (Instr.im0 7).wellFormed = false := by decide

theorem test_refuses_im1_with_the_code_of_im0 : (Instr.im1 1).wellFormed = false ∧ (Instr.im1 3).wellFormed = false := by decide

theorem test_refuses_im2_with_the_code_of_im1 : (Instr.im2 6).wellFormed = false ∧ (Instr.im2 4).wellFormed = false := by decide

theorem test_refuses_retn_with_the_code_of_reti : (Instr.retn 1).wellFormed = false := by decide

theorem test_admits_the_boundaries :
    (Instr.nopEd 0x3F).wellFormed = true ∧ (Instr.nopEd 0x77).wellFormed = true ∧ (Instr.nopEd 0xBF).wellFormed = true ∧
      (Instr.im0 5).wellFormed = true ∧ (Instr.im1 6).wellFormed = true ∧ (Instr.im2 7).wellFormed = true ∧
      (Instr.retn 7).wellFormed = true := by decide

/-! ### Decoding: for every constructor a word written out from its row of spec/opcode_table.json and R110 to R113 -/

/-- The bytes are exactly one instruction, `i`. -/
def reads (bs : List Byte) (i : Instr) : Bool :=
  match decode bs with
  | .ok d => d.instr == i && d.rest.isEmpty
  | .error _ => false

theorem test_decode_load8_1 :
    (reads [0x7F] (.ldRR .a .a) &&
      reads [0x3E, 0x91] (.ldRN .a 0x91) &&
      reads [0x7E] (.ldRAtHl .a) &&
      reads [0xDD, 0x7E, 0x7F] (.ldRAtIx .a 0x7F) &&
      reads [0xFD, 0x6E, 0x7F] (.ldRAtIy .l 0x7F) &&
      reads [0x75] (.ldAtHlR .l) &&
      reads [0xDD, 0x75, 0x7F] (.ldAtIxR 0x7F .l) &&
      reads [0xFD, 0x74, 0x05] (.ldAtIyR 0x05 .h) &&
      reads [0x36, 0x05] (.ldAtHlN 0x05) &&
      reads [0xDD, 0x36, 0x05, 0x05] (.ldAtIxN 0x05 0x05) &&
      reads [0xFD, 0x36, 0x05, 0x05] (.ldAtIyN 0x05 0x05) &&
      reads [0x0A] (.ldAAtBc)) = true := by decide

theorem test_decode_load8_2 :
    (reads [0x1A] (.ldAAtDe) &&
      reads [0x3A, 0xFE, 0xFF] (.ldAAtNn 0xFFFE) &&
      reads [0x02] (.ldAtBcA) &&
      reads [0x12] (.ldAtDeA) &&
      reads [0x32, 0xA5, 0x80] (.ldAtNnA 0x80A5) &&
      reads [0xDD, 0x5B] (.ldPP .ix .e .e) &&
      reads [0xDD, 0x26, 0xFE] (.ldIxhN .hi 0xFE) &&
      reads [0xFD, 0x2E, 0x80] (.ldIyhN .lo 0x80) &&
      reads [0xED, 0x47] (.ldIA) &&
      reads [0xED, 0x4F] (.ldRA) &&
      reads [0xED, 0x57] (.ldAI) &&
      reads [0xED, 0x5F] (.ldAR)) = true := by decide

theorem test_decode_load16_1 :
    (reads [0x31, 0x34, 0x12] (.ldDdNn .sp 0x1234) &&
      reads [0xDD, 0x21, 0xFE, 0xFF] (.ldIxNn 0xFFFE) &&
      reads [0xFD, 0x21, 0xA5, 0x80] (.ldIyNn 0x80A5) &&
      reads [0x2A, 0x34, 0x12] (.ldHlAtNn 0x1234) &&
      reads [0xED, 0x7B, 0xFE, 0xFF] (.ldDdAtNn .sp 0xFFFE) &&
      reads [0xDD, 0x2A, 0xA5, 0x80] (.ldIxAtNn 0x80A5) &&
      reads [0xFD, 0x2A, 0x34, 0x12] (.ldIyAtNn 0x1234) &&
      reads [0x22, 0xFE, 0xFF] (.ldAtNnHl 0xFFFE) &&
      reads [0xED, 0x43, 0xA5, 0x80] (.ldAtNnDd 0x80A5 .bc) &&
      reads [0xDD, 0x22, 0x34, 0x12] (.ldAtNnIx 0x1234) &&
      reads [0xFD, 0x22, 0xFE, 0xFF] (.ldAtNnIy 0xFFFE) &&
      reads [0xF9] (.ldSpHl)) = true := by decide

theorem test_decode_load16_2 :
    (reads [0xDD, 0xF9] (.ldSpIx) &&
      reads [0xFD, 0xF9] (.ldSpIy) &&
      reads [0xF5] (.pushQq .af) &&
      reads [0xDD, 0xE5] (.pushIx) &&
      reads [0xFD, 0xE5] (.pushIy) &&
      reads [0xC1] (.popQq .bc) &&
      reads [0xDD, 0xE1] (.popIx) &&
      reads [0xFD, 0xE1] (.popIy)) = true := by decide

theorem test_decode_exchangeblock_1 :
    (reads [0xEB] (.exDeHl) &&
      reads [0x08] (.exAfAf) &&
      reads [0xD9] (.exx) &&
      reads [0xE3] (.exAtSpHl) &&
      reads [0xDD, 0xE3] (.exAtSpIx) &&
      reads [0xFD, 0xE3] (.exAtSpIy) &&
      reads [0xED, 0xA0] (.ldi) &&
      reads [0xED, 0xA8] (.ldd) &&
      reads [0xED, 0xB0] (.ldir) &&
      reads [0xED, 0xB8] (.lddr) &&
      reads [0xED, 0xA1] (.cpi) &&
      reads [0xED, 0xA9] (.cpd)) = true := by decide

theorem test_decode_exchangeblock_2 :
    (reads [0xED, 0xB1] (.cpir) &&
      reads [0xED, 0xB9] (.cpdr)) = true := by decide

theorem test_decode_alu8_1 :
    (reads [0x80] (.addAR .b) &&
      reads [0x86] (.addAAtHl) &&
      reads [0xC6, 0x7F] (.addAN 0x7F) &&
      reads [0xDD, 0x84] (.addAIxh .hi) &&
      reads [0xDD, 0x86, 0x05] (.addAAtIx 0x05) &&
      reads [0xFD, 0x84] (.addAIyh .hi) &&
      reads [0xFD, 0x86, 0x05] (.addAAtIy 0x05) &&
      reads [0x8F] (.adcAR .a) &&
      reads [0x8E] (.adcAAtHl) &&
      reads [0xCE, 0x05] (.adcAN 0x05) &&
      reads [0xDD, 0x8D] (.adcAIxh .lo) &&
      reads [0xDD, 0x8E, 0xFE] (.adcAAtIx 0xFE)) = true := by decide

theorem test_decode_alu8_2 :
    (reads [0xFD, 0x8D] (.adcAIyh .lo) &&
      reads [0xFD, 0x8E, 0xFE] (.adcAAtIy 0xFE) &&
      reads [0x95] (.subR .l) &&
      reads [0x96] (.subAtHl) &&
      reads [0xD6, 0xFE] (.subN 0xFE) &&
      reads [0xDD, 0x95] (.subIxh .lo) &&
      reads [0xDD, 0x96, 0x80] (.subAtIx 0x80) &&
      reads [0xFD, 0x94] (.subIyh .hi) &&
      reads [0xFD, 0x96, 0x80] (.subAtIy 0x80) &&
      reads [0x9C] (.sbcAR .h) &&
      reads [0x9E] (.sbcAAtHl) &&
      reads [0xDE, 0x80] (.sbcAN 0x80)) = true := by decide

theorem test_decode_alu8_3 :
    (reads [0xDD, 0x9C] (.sbcAIxh .hi) &&
      reads [0xDD, 0x9E, 0x91] (.sbcAAtIx 0x91) &&
      reads [0xFD, 0x9D] (.sbcAIyh .lo) &&
      reads [0xFD, 0x9E, 0x91] (.sbcAAtIy 0x91) &&
      reads [0xA3] (.andR .e) &&
      reads [0xA6] (.andAtHl) &&
      reads [0xE6, 0x91] (.andN 0x91) &&
      reads [0xDD, 0xA5] (.andIxh .lo) &&
      reads [0xDD, 0xA6, 0x91] (.andAtIx 0x91) &&
      reads [0xFD, 0xA4] (.andIyh .hi) &&
      reads [0xFD, 0xA6, 0x7F] (.andAtIy 0x7F) &&
      reads [0xAA] (.xorR .d)) = true := by decide

theorem test_decode_alu8_4 :
    (reads [0xAE] (.xorAtHl) &&
      reads [0xEE, 0x7F] (.xorN 0x7F) &&
      reads [0xDD, 0xAC] (.xorIxh .hi) &&
      reads [0xDD, 0xAE, 0x7F] (.xorAtIx 0x7F) &&
      reads [0xFD, 0xAD] (.xorIyh .lo) &&
      reads [0xFD, 0xAE, 0x05] (.xorAtIy 0x05) &&
      reads [0xB1] (.orR .c) &&
      reads [0xB6] (.orAtHl) &&
      reads [0xF6, 0x05] (.orN 0x05) &&
      reads [0xDD, 0xB5] (.orIxh .lo) &&
      reads [0xDD, 0xB6, 0x05] (.orAtIx 0x05) &&
      reads [0xFD, 0xB5] (.orIyh .lo)) = true := by decide

theorem test_decode_alu8_5 :
    (reads [0xFD, 0xB6, 0xFE] (.orAtIy 0xFE) &&
      reads [0xB8] (.cpR .b) &&
      reads [0xBE] (.cpAtHl) &&
      reads [0xFE, 0xFE] (.cpN 0xFE) &&
      reads [0xDD, 0xBC] (.cpIxh .hi) &&
      reads [0xDD, 0xBE, 0xFE] (.cpAtIx 0xFE) &&
      reads [0xFD, 0xBC] (.cpIyh .hi) &&
      reads [0xFD, 0xBE, 0x80] (.cpAtIy 0x80) &&
      reads [0x3C] (.incR .a) &&
      reads [0x34] (.incAtHl) &&
      reads [0xDD, 0x24] (.incIxh .hi) &&
      reads [0xDD, 0x34, 0x80] (.incAtIx 0x80)) = true := by decide

theorem test_decode_alu8_6 :
    (reads [0xFD, 0x24] (.incIyh .hi) &&
      reads [0xFD, 0x34, 0x80] (.incAtIy 0x80) &&
      reads [0x3D] (.decR .a) &&
      reads [0x35] (.decAtHl) &&
      reads [0xDD, 0x25] (.decIxh .hi) &&
      reads [0xDD, 0x35, 0x91] (.decAtIx 0x91) &&
      reads [0xFD, 0x25] (.decIyh .hi) &&
      reads [0xFD, 0x35, 0x91] (.decAtIy 0x91)) = true := by decide

theorem test_decode_general_1 :
    (reads [0x27] (.daa) &&
      reads [0x2F] (.cpl) &&
      reads [0xED, 0x44] (.neg 0) &&
      reads [0x3F] (.ccf) &&
      reads [0x37] (.scf) &&
      reads [0x00] (.nop) &&
      reads [0xED, 0x3F] (.nopEd 0x3F) &&
      reads [0x76] (.halt) &&
      reads [0xF3] (.di) &&
      reads [0xFB] (.ei) &&
      reads [0xED, 0x46] (.im0 0) &&
      reads [0xED, 0x56] (.im1 2)) = true := by decide

theorem test_decode_general_2 :
    (reads [0xED, 0x5E] (.im2 3)) = true := by decide

theorem test_decode_alu16_1 :
    (reads [0x29] (.addHlSs .hl) &&
      reads [0xDD, 0x39] (.addIxPp .sp) &&
      reads [0xFD, 0x39] (.addIyPp .sp) &&
      reads [0xED, 0x4A] (.adcHlSs .bc) &&
      reads [0xED, 0x52] (.sbcHlSs .de) &&
      reads [0x23] (.incSs .hl) &&
      reads [0xDD, 0x23] (.incIx) &&
      reads [0xFD, 0x23] (.incIy) &&
      reads [0x3B] (.decSs .sp) &&
      reads [0xDD, 0x2B] (.decIx) &&
      reads [0xFD, 0x2B] (.decIy)) = true := by decide

theorem test_decode_rotateshift_1 :
    (reads [0x07] (.rlca) &&
      reads [0x0F] (.rrca) &&
      reads [0x17] (.rla) &&
      reads [0x1F] (.rra) &&
      reads [0xCB, 0x04] (.rlcR .h) &&
      reads [0xCB, 0x06] (.rlcAtHl) &&
      reads [0xDD, 0xCB, 0x7F, 0x06] (.rlcAtIx 0x7F) &&
      reads [0xDD, 0xCB, 0x05, 0x03] (.rlcAtIxR 0x05 .e) &&
      reads [0xFD, 0xCB, 0x05, 0x06] (.rlcAtIy 0x05) &&
      reads [0xFD, 0xCB, 0x05, 0x03] (.rlcAtIyR 0x05 .e) &&
      reads [0xCB, 0x0B] (.rrcR .e) &&
      reads [0xCB, 0x0E] (.rrcAtHl)) = true := by decide

theorem test_decode_rotateshift_2 :
    (reads [0xDD, 0xCB, 0xFE, 0x0E] (.rrcAtIx 0xFE) &&
      reads [0xDD, 0xCB, 0xFE, 0x0A] (.rrcAtIxR 0xFE .d) &&
      reads [0xFD, 0xCB, 0xFE, 0x0E] (.rrcAtIy 0xFE) &&
      reads [0xFD, 0xCB, 0xFE, 0x0A] (.rrcAtIyR 0xFE .d) &&
      reads [0xCB, 0x12] (.rlR .d) &&
      reads [0xCB, 0x16] (.rlAtHl) &&
      reads [0xDD, 0xCB, 0x80, 0x16] (.rlAtIx 0x80) &&
      reads [0xDD, 0xCB, 0x80, 0x11] (.rlAtIxR 0x80 .c) &&
      reads [0xFD, 0xCB, 0x80, 0x16] (.rlAtIy 0x80) &&
      reads [0xFD, 0xCB, 0x80, 0x11] (.rlAtIyR 0x80 .c) &&
      reads [0xCB, 0x18] (.rrR .b) &&
      reads [0xCB, 0x1E] (.rrAtHl)) = true := by decide

theorem test_decode_rotateshift_3 :
    (reads [0xDD, 0xCB, 0x91, 0x1E] (.rrAtIx 0x91) &&
      reads [0xDD, 0xCB, 0x91, 0x18] (.rrAtIxR 0x91 .b) &&
      reads [0xFD, 0xCB, 0x91, 0x1E] (.rrAtIy 0x91) &&
      reads [0xFD, 0xCB, 0x91, 0x18] (.rrAtIyR 0x91 .b) &&
      reads [0xCB, 0x27] (.slaR .a) &&
      reads [0xCB, 0x26] (.slaAtHl) &&
      reads [0xDD, 0xCB, 0x7F, 0x26] (.slaAtIx 0x7F) &&
      reads [0xDD, 0xCB, 0x7F, 0x27] (.slaAtIxR 0x7F .a) &&
      reads [0xFD, 0xCB, 0x7F, 0x26] (.slaAtIy 0x7F) &&
      reads [0xFD, 0xCB, 0x7F, 0x25] (.slaAtIyR 0x7F .l) &&
      reads [0xCB, 0x2D] (.sraR .l) &&
      reads [0xCB, 0x2E] (.sraAtHl)) = true := by decide

theorem test_decode_rotateshift_4 :
    (reads [0xDD, 0xCB, 0x05, 0x2E] (.sraAtIx 0x05) &&
      reads [0xDD, 0xCB, 0x05, 0x2D] (.sraAtIxR 0x05 .l) &&
      reads [0xFD, 0xCB, 0x05, 0x2E] (.sraAtIy 0x05) &&
      reads [0xFD, 0xCB, 0x05, 0x2C] (.sraAtIyR 0x05 .h) &&
      reads [0xCB, 0x34] (.sllR .h) &&
      reads [0xCB, 0x36] (.sllAtHl) &&
      reads [0xDD, 0xCB, 0xFE, 0x36] (.sllAtIx 0xFE) &&
      reads [0xDD, 0xCB, 0xFE, 0x34] (.sllAtIxR 0xFE .h) &&
      reads [0xFD, 0xCB, 0xFE, 0x36] (.sllAtIy 0xFE) &&
      reads [0xFD, 0xCB, 0x80, 0x33] (.sllAtIyR 0x80 .e) &&
      reads [0xCB, 0x3B] (.srlR .e) &&
      reads [0xCB, 0x3E] (.srlAtHl)) = true := by decide

theorem test_decode_rotateshift_5 :
    (reads [0xDD, 0xCB, 0x80, 0x3E] (.srlAtIx 0x80) &&
      reads [0xDD, 0xCB, 0x80, 0x3B] (.srlAtIxR 0x80 .e) &&
      reads [0xFD, 0xCB, 0x80, 0x3E] (.srlAtIy 0x80) &&
      reads [0xFD, 0xCB, 0x91, 0x3A] (.srlAtIyR 0x91 .d) &&
      reads [0xED, 0x6F] (.rld) &&
      reads [0xED, 0x67] (.rrd)) = true := by decide

theorem test_decode_bitops_1 :
    (reads [0xCB, 0x7A] (.bitBR 7 .d) &&
      reads [0xCB, 0x4E] (.bitBAtHl 1) &&
      reads [0xDD, 0xCB, 0x7F, 0x76] (.bitBAtIx 6 0x7F 6) &&
      reads [0xFD, 0xCB, 0x7F, 0x7E] (.bitBAtIy 7 0x7F 6) &&
      reads [0xCB, 0xC9] (.setBR 1 .c) &&
      reads [0xCB, 0xDE] (.setBAtHl 3) &&
      reads [0xDD, 0xCB, 0x05, 0xFE] (.setBAtIx 7 0x05) &&
      reads [0xDD, 0xCB, 0x05, 0xC8] (.setBAtIxR 1 0x05 .b) &&
      reads [0xFD, 0xCB, 0x05, 0xC6] (.setBAtIy 0 0x05) &&
      reads [0xFD, 0xCB, 0xFE, 0xCF] (.setBAtIyR 1 0xFE .a) &&
      reads [0xCB, 0x87] (.resBR 0 .a) &&
      reads [0xCB, 0x96] (.resBAtHl 2)) = true := by decide

theorem test_decode_bitops_2 :
    (reads [0xDD, 0xCB, 0x80, 0xB6] (.resBAtIx 6 0x80) &&
      reads [0xDD, 0xCB, 0x80, 0x85] (.resBAtIxR 0 0x80 .l) &&
      reads [0xFD, 0xCB, 0x80, 0xBE] (.resBAtIy 7 0x80) &&
      reads [0xFD, 0xCB, 0x91, 0x84] (.resBAtIyR 0 0x91 .h)) = true := by decide

theorem test_decode_control_1 :
    (reads [0xC3, 0xA5, 0x80] (.jpNn 0x80A5) &&
      reads [0xE2, 0xFE, 0xFF] (.jpCcNn .po 0xFFFE) &&
      reads [0x18, 0x7F] (.jrE 0x7F) &&
      reads [0x30, 0x7F] (.jrCcE .nc 0x7F) &&
      reads [0xE9] (.jpAtHl) &&
      reads [0xDD, 0xE9] (.jpAtIx) &&
      reads [0xFD, 0xE9] (.jpAtIy) &&
      reads [0x10, 0x7F] (.djnzE 0x7F) &&
      reads [0xCD, 0xA5, 0x80] (.callNn 0x80A5) &&
      reads [0xF4, 0xFE, 0xFF] (.callCcNn .p 0xFFFE) &&
      reads [0xC9] (.ret) &&
      reads [0xF8] (.retCc .m)) = true := by decide

theorem test_decode_control_2 :
    (reads [0xED, 0x4D] (.reti) &&
      reads [0xED, 0x45] (.retn 0) &&
      reads [0xE7] (.rstP 4)) = true := by decide

theorem test_decode_io_1 :
    (reads [0xDB, 0x05] (.inAAtN 0x05) &&
      reads [0xED, 0x50] (.inRAtC .d) &&
      reads [0xED, 0x70] (.inAtC) &&
      reads [0xD3, 0x05] (.outAtNA 0x05) &&
      reads [0xED, 0x51] (.outAtCR .d) &&
      reads [0xED, 0x71] (.outAtC0) &&
      reads [0xED, 0xA2] (.ini) &&
      reads [0xED, 0xAA] (.ind) &&
      reads [0xED, 0xB2] (.inir) &&
      reads [0xED, 0xBA] (.indr) &&
      reads [0xED, 0xA3] (.outi) &&
      reads [0xED, 0xAB] (.outd)) = true := by decide

theorem test_decode_io_2 :
    (reads [0xED, 0xB3] (.otir) &&
      reads [0xED, 0xBB] (.otdr)) = true := by decide

theorem test_decode_prefixbytes_1 :
    (reads [0xCB] (.prefixCb) &&
      reads [0xDD] (.prefixDd) &&
      reads [0xED] (.prefixEd) &&
      reads [0xFD] (.prefixFd) &&
      reads [0xDD, 0xCB] (.prefixDdCb) &&
      reads [0xDD, 0xDD] (.prefixDdAfterDd) &&
      reads [0xDD, 0xED] (.prefixEdAfterDd) &&
      reads [0xDD, 0xFD] (.prefixFdAfterDd) &&
      reads [0xFD, 0xCB] (.prefixFdCb) &&
      reads [0xFD, 0xDD] (.prefixDdAfterFd) &&
      reads [0xFD, 0xED] (.prefixEdAfterFd) &&
      reads [0xFD, 0xFD] (.prefixFdAfterFd)) = true := by decide

theorem test_a_string_that_ends_too_soon_is_refused : decode [0x3E] = .error .truncated := by rfl

theorem test_decode_table_word : decodeTableWord 16 0x473E = some (.ldRN .a 0x47) ∧ decodeTableWord 8 0x3E = some (.ldRN .a 0) := by
  decide

/-! ### One step: vectors of spec/95_test_vectors.md -/

/-- A state of the vectors' form: `SP` at `F000`, `PC` at the program, its bytes in memory. -/
def start (pc : Word) (bytes : List Byte) : State := { State.reset with sp := 0xF000, pc := pc }.placeBytes pc bytes

/-- The step runs and its state passes the check. -/
def after (s : State) (check : State → Bool) : Bool :=
  match step s with
  | .next t => check t
  | _ => false

theorem test_v1_r336 :
    after (start 0x0100 [0x00])
      (fun t => t.pc == 0x0101 && t.r == 0x01) = true := by decide

theorem test_v2_r102_r202 :
    after (start 0x0100 [0xDD, 0xFD, 0xDD, 0x21, 0x34, 0x12])
      (fun t => t.ix == 0x1234 && t.pc == 0x0106 && t.r == 0x04) = true := by decide

theorem test_v3_r102_r154 :
    after ((({ start 0x0100 [0xFD, 0xDD, 0xFD, 0x7E, 0x05] with iy := 0x0200, ix := 0x0300 }).placeBytes 0x0205 [0xAA]).placeBytes 0x0305 [0xBB])
      (fun t => t.a == 0xAA && t.pc == 0x0105 && t.r == 0x04) = true := by decide

theorem test_v4_r116_r336 :
    after (start 0x0100 [0xDD, 0x00])
      (fun t => t.pc == 0x0102 && t.r == 0x02) = true := by decide

theorem test_v5_r116_r241 :
    after ({ start 0x0100 [0xFD, 0xEB] with d := 0x11, e := 0x11, h := 0x22, l := 0x22, iy := 0x3333 })
      (fun t => t.de == 0x2222 && t.hl == 0x1111) = true := by decide

theorem test_v6_r124_r204 :
    after (({ start 0x0100 [0xDD, 0xED, 0x6B, 0x00, 0x02] with ix := 0x5555 }).placeBytes 0x0200 [0x34, 0x12])
      (fun t => t.hl == 0x1234) = true := by decide

theorem test_v7_r103_r401 :
    after ({ start 0x0100 [0xCB, 0x00] with b := 0x80, c := 0x00 })
      (fun t => t.f == Flags.ofByte 0x01 && t.bc == 0x0100 && t.pc == 0x0102 && t.r == 0x02) = true := by decide

theorem test_v9_r44 :
    after ({ start 0x0100 [0x00] with r := 0x7F })
      (fun t => t.pc == 0x0101 && t.r == 0x00) = true := by decide

theorem test_v11_r643 :
    after (start 0xFFEC [0x21])
      (fun t => t.hl == 0xC9C9) = true := by decide

theorem test_v12_r151 :
    after ({ start 0x0100 [0x78] with b := 0x12, c := 0x00 })
      (fun t => t.a == 0x12) = true := by decide

theorem test_v14_r152 :
    after (start 0x0100 [0x3E, 0x01])
      (fun t => t.a == 0x01) = true := by decide

theorem test_v15_r153 :
    after (({ start 0x0100 [0x66] with h := 0x02, l := 0x00 }).placeBytes 0x0200 [0x55])
      (fun t => t.hl == 0x5500) = true := by decide

theorem test_v16_r154 :
    after (({ start 0x0100 [0xDD, 0x66, 0xFF] with ix := 0x0200, h := 0x11, l := 0x11 }).placeBytes 0x01FF [0x77])
      (fun t => t.hl == 0x7711) = true := by decide

theorem test_v18_r156 :
    after ({ start 0x0100 [0xFD, 0x74, 0x02] with iy := 0x1000, h := 0xAB, l := 0x00 })
      (fun t => t.readByte 0x1002 == 0xAB) = true := by decide

theorem test_v19_r157 :
    after ({ start 0x0100 [0x36, 0xAA] with h := 0x02, l := 0x00 })
      (fun t => t.readByte 0x0200 == 0xAA) = true := by decide

theorem test_v20_r158 :
    after ({ start 0x0100 [0xDD, 0x36, 0x05, 0x7F] with ix := 0x2000 })
      (fun t => t.readByte 0x2005 == 0x7F) = true := by decide

theorem test_v22_r161 :
    after ((start 0x0100 [0x3A, 0x00, 0x02]).placeBytes 0x0200 [0x03])
      (fun t => t.a == 0x03) = true := by decide

theorem test_v23_r164 :
    after ({ start 0x0100 [0x32, 0x00, 0x02] with a := 0x03 })
      (fun t => t.readByte 0x0200 == 0x03) = true := by decide

theorem test_v25_r165 :
    after ({ start 0x0100 [0xDD, 0x65] with ix := 0x12FF, h := 0x55, l := 0x66 })
      (fun t => t.ix == 0xFFFF) = true := by decide

theorem test_v28_r166 :
    after ({ start 0x0100 [0xFD, 0x2E, 0x10] with iy := 0xABCD })
      (fun t => t.iy == 0xAB10) = true := by decide

theorem test_v31_r174 :
    after ({ start 0x0100 [0xED, 0x57] with i := 0x00, iff := true, f := Flags.ofByte 0xFF })
      (fun t => t.f == Flags.ofByte 0x45 && t.pc == 0x0102 && t.r == 0x02) = true := by decide

theorem test_v33_r175 :
    after ({ start 0x0100 [0xED, 0x5F] with r := 0x7E })
      (fun t => t.f == Flags.ofByte 0x40 && t.pc == 0x0102 && t.r == 0x00) = true := by decide

theorem test_v35_r201 :
    after (start 0x0100 [0x11, 0x0E, 0x01])
      (fun t => t.de == 0x010E) = true := by decide

theorem test_v37_r203 :
    after (((start 0x0100 [0x2A, 0xFF, 0xFF]).placeBytes 0xFFFF [0x34]).placeBytes 0x0000 [0x12])
      (fun t => t.hl == 0x1234) = true := by decide

theorem test_v38_r204 :
    after ((start 0x0100 [0xED, 0x7B, 0x00, 0x03]).placeBytes 0x0300 [0x00, 0xE0])
      (fun t => t.sp == 0xE000) = true := by decide

theorem test_v39_r206 :
    after ({ start 0x0100 [0x22, 0x00, 0x02] with h := 0x12, l := 0x34 })
      (fun t => t.readByte 0x0200 == 0x34 && t.readByte 0x0201 == 0x12) = true := by decide

theorem test_v40_r207 :
    after ({ start 0x0100 [0xED, 0x73, 0x00, 0x03] with sp := 0xE1F0 })
      (fun t => t.readByte 0x0300 == 0xF0 && t.readByte 0x0301 == 0xE1) = true := by decide

theorem test_v41_r208 :
    after ({ start 0x0100 [0xDD, 0x22, 0x00, 0x02] with ix := 0xBEEF })
      (fun t => t.readByte 0x0200 == 0xEF && t.readByte 0x0201 == 0xBE) = true := by decide

theorem test_v42_r209 :
    after ({ start 0x0100 [0xF9] with h := 0xE0, l := 0x00 })
      (fun t => t.sp == 0xE000) = true := by decide

theorem test_v43_r211 :
    after ({ start 0x0100 [0xC5] with b := 0x12, c := 0x34 })
      (fun t => t.sp == 0xEFFE && t.readByte 0xEFFE == 0x34 && t.readByte 0xEFFF == 0x12) = true := by decide

theorem test_v46_r213 :
    after (({ start 0x0100 [0xF1] with sp := 0xEFFE }).placeBytes 0xEFFE [0xD7, 0x01])
      (fun t => t.a == 0x01 && t.f == Flags.ofByte 0xD7 && t.sp == 0xF000) = true := by decide

theorem test_v50_r241 :
    after ({ start 0x0100 [0xEB] with d := 0x11, e := 0x11, h := 0x22, l := 0x22 })
      (fun t => t.de == 0x2222 && t.hl == 0x1111) = true := by decide

theorem test_v51_r242 :
    after ({ start 0x0100 [0x08] with a := 0x01, a' := 0x02, f := Flags.ofByte 0x01, f' := Flags.ofByte 0x80 })
      (fun t => t.a == 0x02 && t.f == Flags.ofByte 0x80 && t.a' == 0x01 && t.f' == Flags.ofByte 0x01) = true := by decide

theorem test_v52_r243 :
    after ({ start 0x0100 [0xD9] with
          b := 0x00, c := 0x01, d := 0x00, e := 0x02, h := 0x00, l := 0x03, b' := 0x00, c' := 0x04, d' := 0x00, e' := 0x05, h' := 0x00, l' := 0x06, a := 0x09 })
      (fun t => t.bc == 0x0004 && t.de == 0x0005 && t.hl == 0x0006 && t.b' == 0x00 && t.c' == 0x01 && t.d' == 0x00 && t.e' == 0x02 &&
        t.h' == 0x00 && t.l' == 0x03) = true := by decide

theorem test_v53_r244 :
    after (({ start 0x0100 [0xE3] with h := 0x12, l := 0x34, sp := 0xEFFE }).placeBytes 0xEFFE [0x78, 0x56])
      (fun t => t.hl == 0x5678 && t.readByte 0xEFFE == 0x34 && t.readByte 0xEFFF == 0x12) = true := by decide

theorem test_v54_r245 :
    after (({ start 0x0100 [0xDD, 0xE3] with ix := 0x1234, h := 0x99, l := 0x99, sp := 0xEFFE }).placeBytes 0xEFFE [0x78, 0x56])
      (fun t => t.ix == 0x5678 && t.readByte 0xEFFE == 0x34 && t.readByte 0xEFFF == 0x12) = true := by decide

theorem test_v55_r250 :
    after (({ start 0x0100 [0xED, 0xA0] with
          h := 0x02, l := 0x00, d := 0x03, e := 0x00, b := 0x00, c := 0x02, f := Flags.ofByte 0xFF }).placeBytes 0x0200 [0x41])
      (fun t => t.f == Flags.ofByte 0xC5 && t.bc == 0x0001 && t.de == 0x0301 && t.hl == 0x0201 &&
        t.readByte 0x0300 == 0x41) = true := by decide

theorem test_v58_r251 :
    after (({ start 0x0100 [0xED, 0xA8] with h := 0x02, l := 0x01, d := 0x03, e := 0x01, b := 0x00, c := 0x01 }).placeBytes 0x0201 [0x0A])
      (fun t => t.f == Flags.ofByte 0x28 && t.bc == 0x0000 && t.de == 0x0300 && t.hl == 0x0200 &&
        t.readByte 0x0301 == 0x0A) = true := by decide

theorem test_v59_r252 :
    after (({ start 0x0100 [0xED, 0xB0] with h := 0x02, l := 0x00, d := 0x03, e := 0x00, b := 0x00, c := 0x03 }).placeBytes 0x0200 [0x11, 0x22, 0x33])
      (fun t => t.f == Flags.ofByte 0x04 && t.bc == 0x0002 && t.de == 0x0301 && t.hl == 0x0201 &&
        t.readByte 0x0300 == 0x11) = true := by decide

theorem test_v64_r254 :
    after (({ start 0x0100 [0xED, 0xA1] with
          a := 0x48, h := 0x02, l := 0x00, b := 0x00, c := 0x05, f := Flags.ofByte 0x01 }).placeBytes 0x0200 [0x48])
      (fun t => t.f == Flags.ofByte 0x47 && t.bc == 0x0004 && t.hl == 0x0201) = true := by decide

theorem test_v65_r255 :
    after (({ start 0x0100 [0xED, 0xA9] with a := 0x10, h := 0x02, l := 0x00, b := 0x00, c := 0x01 }).placeBytes 0x0200 [0x01])
      (fun t => t.f == Flags.ofByte 0x3A && t.bc == 0x0000 && t.hl == 0x01FF) = true := by decide

theorem test_v69_r286 :
    after ({ start 0x0100 [0xC6, 0x02] with a := 0x01 })
      (fun t => t.a == 0x03) = true := by decide

theorem test_v74_r287 :
    after ({ start 0x0100 [0xCE, 0x00] with a := 0xFF, f := Flags.ofByte 0x01 })
      (fun t => t.a == 0x00 && t.f == Flags.ofByte 0x51) = true := by decide

theorem test_v77_r288 :
    after ({ start 0x0100 [0xD6, 0x01] with a := 0x00 })
      (fun t => t.a == 0xFF && t.f == Flags.ofByte 0xBB) = true := by decide

theorem test_v80_r289 :
    after ({ start 0x0100 [0xDE, 0x00] with a := 0x00, f := Flags.ofByte 0x01 })
      (fun t => t.a == 0xFF && t.f == Flags.ofByte 0xBB) = true := by decide

theorem test_v83_r290 :
    after ({ start 0x0100 [0xE6, 0x0F] with a := 0x3C })
      (fun t => t.a == 0x0C && t.f == Flags.ofByte 0x1C) = true := by decide

theorem test_v85_r291 :
    after ({ start 0x0100 [0xAF] with a := 0x77, f := Flags.ofByte 0xFF })
      (fun t => t.a == 0x00 && t.f == Flags.ofByte 0x44) = true := by decide

theorem test_v87_r292 :
    after ({ start 0x0100 [0xF6, 0x01] with a := 0x80 })
      (fun t => t.a == 0x81 && t.f == Flags.ofByte 0x84) = true := by decide

theorem test_v89_r293 :
    after ({ start 0x0100 [0xFE, 0x03] with a := 0x03 })
      (fun t => t.f == Flags.ofByte 0x42) = true := by decide

theorem test_v93_r285_r286 :
    after (({ start 0x0100 [0x86] with a := 0x01, h := 0x02, l := 0x00 }).placeBytes 0x0200 [0x02])
      (fun t => t.a == 0x03) = true := by decide

theorem test_v96_r285_r288 :
    after ({ start 0x0100 [0xFD, 0x95] with a := 0x10, iy := 0x0501, h := 0x70, l := 0x00 })
      (fun t => t.a == 0x0F && t.f == Flags.ofByte 0x1A) = true := by decide

theorem test_v98_r301 :
    after ({ start 0x0100 [0x3C] with a := 0x7F })
      (fun t => t.a == 0x80 && t.f == Flags.ofByte 0x94) = true := by decide

theorem test_v103_r302 :
    after ({ start 0x0100 [0x05] with b := 0x01, c := 0x00 })
      (fun t => t.f == Flags.ofByte 0x42 && t.bc == 0x0000) = true := by decide

theorem test_v108_r331 :
    after ({ start 0x0100 [0x27] with a := 0x3C })
      (fun t => t.a == 0x42 && t.f == Flags.ofByte 0x14 && t.pc == 0x0101 && t.r == 0x01) = true := by decide

theorem test_v115_r332 :
    after ({ start 0x0100 [0x2F] with a := 0x0F })
      (fun t => t.a == 0xF0 && t.f == Flags.ofByte 0x32 && t.pc == 0x0101 && t.r == 0x01) = true := by decide

theorem test_v116_r333 :
    after ({ start 0x0100 [0xED, 0x44] with a := 0x01 })
      (fun t => t.a == 0xFF && t.f == Flags.ofByte 0xBB && t.pc == 0x0102 && t.r == 0x02) = true := by decide

theorem test_v119_r334 :
    after ({ start 0x0100 [0x3F] with a := 0x28, f := Flags.ofByte 0x01 })
      (fun t => t.f == Flags.ofByte 0x38 && t.pc == 0x0101 && t.r == 0x01) = true := by decide

theorem test_v121_r335 :
    after ({ start 0x0100 [0x37] with a := 0x00, f := Flags.ofByte 0xFE })
      (fun t => t.f == Flags.ofByte 0xC5 && t.pc == 0x0101 && t.r == 0x01) = true := by decide

theorem test_v123_r337 :
    after (start 0x0100 [0xED, 0x00])
      (fun t => t.pc == 0x0102 && t.r == 0x02) = true := by decide

theorem test_v129_r341 :
    after ({ start 0x0100 [0xED, 0x5E] with f := Flags.ofByte 0xFF })
      (fun t => t.pc == 0x0102 && t.r == 0x02) = true := by decide

theorem test_v130_r361 :
    after ({ start 0x0100 [0x09] with h := 0x0F, l := 0xFF, b := 0x00, c := 0x01 })
      (fun t => t.f == Flags.ofByte 0x10 && t.hl == 0x1000) = true := by decide

theorem test_v134_r362 :
    after ({ start 0x0100 [0xDD, 0x29] with ix := 0x8000, h := 0x11, l := 0x11 })
      (fun t => t.f == Flags.ofByte 0x01 && t.ix == 0x0000) = true := by decide

theorem test_v136_r363 :
    after ({ start 0x0100 [0xED, 0x4A] with h := 0xFF, l := 0xFF, f := Flags.ofByte 0x01 })
      (fun t => t.f == Flags.ofByte 0x51 && t.hl == 0x0000) = true := by decide

theorem test_v139_r364 :
    after ({ start 0x0100 [0xED, 0x52] with h := 0x10, l := 0x00, d := 0x00, e := 0x01 })
      (fun t => t.f == Flags.ofByte 0x1A && t.hl == 0x0FFF) = true := by decide

theorem test_v144_r365 :
    after ({ start 0x0100 [0x23] with h := 0x00, l := 0xFF, f := Flags.ofByte 0xFF })
      (fun t => t.hl == 0x0100) = true := by decide

theorem test_v146_r366 :
    after ({ start 0x0100 [0xFD, 0x23] with iy := 0xFFFF })
      (fun t => t.iy == 0x0000) = true := by decide

theorem test_v147_r367 :
    after ({ start 0x0100 [0x0B] with b := 0x00, c := 0x00 })
      (fun t => t.bc == 0xFFFF) = true := by decide

theorem test_v148_r368 :
    after ({ start 0x0100 [0xDD, 0x2B] with ix := 0x0000 })
      (fun t => t.ix == 0xFFFF) = true := by decide

theorem test_v149_r391 :
    after ({ start 0x0100 [0x07] with a := 0x81, f := Flags.ofByte 0xC4 })
      (fun t => t.a == 0x03 && t.f == Flags.ofByte 0xC5) = true := by decide

theorem test_v150_r392 :
    after ({ start 0x0100 [0x0F] with a := 0x01 })
      (fun t => t.a == 0x80 && t.f == Flags.ofByte 0x01) = true := by decide

theorem test_v151_r393 :
    after ({ start 0x0100 [0x17] with a := 0x80 })
      (fun t => t.a == 0x00 && t.f == Flags.ofByte 0x01) = true := by decide

theorem test_v153_r394 :
    after ({ start 0x0100 [0x1F] with a := 0x01, f := Flags.ofByte 0x01 })
      (fun t => t.a == 0x80) = true := by decide

theorem test_v154_r401 :
    after ({ start 0x0100 [0xCB, 0x00] with b := 0x80, c := 0x00 })
      (fun t => t.f == Flags.ofByte 0x01 && t.bc == 0x0100) = true := by decide

theorem test_v155_r402 :
    after (({ start 0x0100 [0xCB, 0x0E] with h := 0x02, l := 0x00 }).placeBytes 0x0200 [0x01])
      (fun t => t.f == Flags.ofByte 0x81 && t.readByte 0x0200 == 0x80) = true := by decide

theorem test_v156_r403 :
    after ({ start 0x0100 [0xCB, 0x11] with b := 0x00, c := 0x80 })
      (fun t => t.f == Flags.ofByte 0x45 && t.bc == 0x0000) = true := by decide

theorem test_v157_r404 :
    after ({ start 0x0100 [0xCB, 0x1A] with d := 0x02, e := 0x00, f := Flags.ofByte 0x01 })
      (fun t => t.f == Flags.ofByte 0x84 && t.de == 0x8100) = true := by decide

theorem test_v158_r405 :
    after ({ start 0x0100 [0xCB, 0x27] with a := 0xC0 })
      (fun t => t.a == 0x80 && t.f == Flags.ofByte 0x81) = true := by decide

theorem test_v159_r406 :
    after ({ start 0x0100 [0xCB, 0x2F] with a := 0x81 })
      (fun t => t.a == 0xC0 && t.f == Flags.ofByte 0x85) = true := by decide

theorem test_v160_r407 :
    after ({ start 0x0100 [0xCB, 0x37] with a := 0x00 })
      (fun t => t.a == 0x01) = true := by decide

theorem test_v162_r408 :
    after ({ start 0x0100 [0xCB, 0x3F] with a := 0x01 })
      (fun t => t.a == 0x00 && t.f == Flags.ofByte 0x45) = true := by decide

theorem test_v163_r408_r400 :
    after (({ start 0x0100 [0xDD, 0xCB, 0x02, 0x38] with ix := 0x0200 }).placeBytes 0x0202 [0x81])
      (fun t => t.f == Flags.ofByte 0x01 && t.bc == 0x4000 && t.readByte 0x0202 == 0x40) = true := by decide

theorem test_v164_r401_r400 :
    after (({ start 0x0100 [0xFD, 0xCB, 0xFF, 0x06] with iy := 0x0201 }).placeBytes 0x0200 [0x55])
      (fun t => t.f == Flags.ofByte 0xAC && t.readByte 0x0200 == 0xAA) = true := by decide

theorem test_v165_r400 :
    after (({ start 0x0100 [0xDD, 0xCB, 0x00, 0x04] with ix := 0x0200, h := 0x12, l := 0x34 }).placeBytes 0x0200 [0x40])
      (fun t => t.f == Flags.ofByte 0x80 && t.hl == 0x8034 && t.readByte 0x0200 == 0x80) = true := by decide

theorem test_v166_r410 :
    after (({ start 0x0100 [0xED, 0x6F] with a := 0x7A, h := 0x02, l := 0x00 }).placeBytes 0x0200 [0x31])
      (fun t => t.a == 0x73 && t.f == Flags.ofByte 0x20 && t.readByte 0x0200 == 0x1A) = true := by decide

theorem test_v167_r411 :
    after (({ start 0x0100 [0xED, 0x67] with a := 0x84, h := 0x02, l := 0x00 }).placeBytes 0x0200 [0x20])
      (fun t => t.a == 0x80 && t.f == Flags.ofByte 0x80 && t.readByte 0x0200 == 0x42) = true := by decide

theorem test_v169_r445 :
    after ({ start 0x0100 [0xCB, 0x7F] with a := 0x80 })
      (fun t => t.f == Flags.ofByte 0x90 && t.pc == 0x0102 && t.r == 0x02) = true := by decide

theorem test_v173_r446 :
    after (({ start 0x0100 [0xCB, 0x46] with h := 0x02, l := 0x00 }).placeBytes 0x0200 [0x01])
      (fun t => t.f == Flags.ofByte 0x10 && t.pc == 0x0102 && t.r == 0x02) = true := by decide

theorem test_v175_r447 :
    after (({ start 0x0100 [0xDD, 0xCB, 0x05, 0x46] with ix := 0x2800 }).placeBytes 0x2805 [0xFE])
      (fun t => t.f == Flags.ofByte 0x7C && t.pc == 0x0104 && t.r == 0x02) = true := by decide

theorem test_v178_r451 :
    after ({ start 0x0100 [0xCB, 0xC7] with a := 0x00, f := Flags.ofByte 0xFF })
      (fun t => t.a == 0x01) = true := by decide

theorem test_v181_r452 :
    after (({ start 0x0100 [0xCB, 0xBE] with h := 0x02, l := 0x00 }).placeBytes 0x0200 [0xFF])
      (fun t => t.readByte 0x0200 == 0x7F) = true := by decide

theorem test_v184_r471 :
    after (start 0x0100 [0xC3, 0x00, 0x02])
      (fun t => t.pc == 0x0200 && t.r == 0x01) = true := by decide

theorem test_v185_r472 :
    after ({ start 0x0100 [0xCA, 0x00, 0x02] with f := Flags.ofByte 0x40 })
      (fun t => t.pc == 0x0200 && t.r == 0x01) = true := by decide

theorem test_v189_r473 :
    after (start 0x0100 [0x18, 0xFE])
      (fun t => t.pc == 0x0100 && t.r == 0x01) = true := by decide

theorem test_v193_r474 :
    after ({ start 0x0104 [0x20, 0xFC] with f := Flags.ofByte 0x00 })
      (fun t => t.pc == 0x0102 && t.r == 0x01) = true := by decide

theorem test_v196_r475 :
    after (({ start 0x0100 [0xE9] with h := 0x12, l := 0x34 }).placeBytes 0x1234 [0x78, 0x56])
      (fun t => t.pc == 0x1234 && t.r == 0x01) = true := by decide

theorem test_v197_r476 :
    after ({ start 0x0100 [0xFD, 0xE9] with iy := 0x0300, h := 0x12, l := 0x34 })
      (fun t => t.pc == 0x0300 && t.r == 0x02) = true := by decide

theorem test_v199_r477 :
    after ({ start 0x0100 [0x10, 0xFE] with b := 0x01, c := 0x00 })
      (fun t => t.bc == 0x0000 && t.pc == 0x0102 && t.r == 0x01) = true := by decide

theorem test_v201_r480 :
    after (start 0x0105 [0xCD, 0x05, 0x00])
      (fun t => t.sp == 0xEFFE && t.readByte 0xEFFE == 0x08 && t.readByte 0xEFFF == 0x01 && t.pc == 0x0005 &&
        t.r == 0x01) = true := by decide

theorem test_v203_r481 :
    after ({ start 0x0100 [0xCC, 0x00, 0x02] with f := Flags.ofByte 0x40 })
      (fun t => t.sp == 0xEFFE && t.readByte 0xEFFE == 0x03 && t.readByte 0xEFFF == 0x01 && t.pc == 0x0200 &&
        t.r == 0x01) = true := by decide

theorem test_v205_r482 :
    after (({ start 0x0100 [0xC9] with sp := 0xEFFE }).placeBytes 0xEFFE [0x08, 0x01])
      (fun t => t.sp == 0xF000 && t.pc == 0x0108 && t.r == 0x01) = true := by decide

theorem test_v206_r483 :
    after (({ start 0x0100 [0xC8] with f := Flags.ofByte 0x00, sp := 0xEFFE }).placeBytes 0xEFFE [0x08, 0x01])
      (fun t => t.pc == 0x0101 && t.r == 0x01) = true := by decide

theorem test_v208_r484 :
    after (({ start 0x0100 [0xED, 0x4D] with iff := true, sp := 0xEFFE }).placeBytes 0xEFFE [0x08, 0x01])
      (fun t => t.sp == 0xF000 && t.pc == 0x0108 && t.r == 0x02) = true := by decide

theorem test_v209_r485 :
    after (({ start 0x0100 [0xED, 0x45] with iff := false, sp := 0xEFFE }).placeBytes 0xEFFE [0x08, 0x01])
      (fun t => t.sp == 0xF000 && t.pc == 0x0108 && t.r == 0x02) = true := by decide

theorem test_v211_r486 :
    after (start 0x0100 [0xFF])
      (fun t => t.sp == 0xEFFE && t.readByte 0xEFFE == 0x01 && t.readByte 0xEFFF == 0x01 && t.pc == 0x0038 &&
        t.r == 0x01) = true := by decide

theorem test_v214_r521 :
    after ({ start 0x0100 [0xDB, 0x10] with a := 0x55, f := Flags.ofByte 0xFF })
      (fun t => t.a == 0x00) = true := by decide

theorem test_v215_r522 :
    after ({ start 0x0100 [0xED, 0x78] with a := 0x55, f := Flags.ofByte 0xFF, b := 0x12, c := 0x34 })
      (fun t => t.a == 0x00 && t.f == Flags.ofByte 0x45) = true := by decide

theorem test_v217_r523 :
    after ({ start 0x0100 [0xED, 0x70] with f := Flags.ofByte 0x81, h := 0x12, l := 0x34 })
      (fun t => t.f == Flags.ofByte 0x45) = true := by decide

theorem test_v218_r524 :
    after ({ start 0x0100 [0xD3, 0x01] with a := 0x55, f := Flags.ofByte 0xFF })
      (fun t => t.pc == 0x0102 && t.r == 0x01) = true := by decide

theorem test_v219_r525 :
    after ({ start 0x0100 [0xED, 0x79] with a := 0x55, b := 0x12, c := 0x34 })
      (fun t => t.pc == 0x0102 && t.r == 0x02) = true := by decide

theorem test_v220_r526 :
    after ({ start 0x0100 [0xED, 0x71] with f := Flags.ofByte 0xFF })
      (fun t => t.pc == 0x0102 && t.r == 0x02) = true := by decide

theorem test_v221_r531 :
    after (({ start 0x0100 [0xED, 0xA2] with b := 0x02, c := 0x10, h := 0x02, l := 0x00 }).placeBytes 0x0200 [0x55])
      (fun t => t.f == Flags.ofByte 0x04 && t.bc == 0x0110 && t.hl == 0x0201 && t.readByte 0x0200 == 0x00) = true := by decide

theorem test_v223_r532 :
    after (({ start 0x0100 [0xED, 0xAA] with b := 0x01, c := 0x00, h := 0x02, l := 0x00 }).placeBytes 0x0200 [0x55])
      (fun t => t.f == Flags.ofByte 0x40 && t.bc == 0x0000 && t.hl == 0x01FF && t.readByte 0x0200 == 0x00) = true := by decide

theorem test_v226_r535 :
    after (({ start 0x0100 [0xED, 0xA3] with b := 0x01, c := 0x00, h := 0x02, l := 0xFF }).placeBytes 0x02FF [0x80])
      (fun t => t.f == Flags.ofByte 0x46 && t.bc == 0x0000 && t.hl == 0x0300) = true := by decide

theorem test_v228_r536 :
    after (({ start 0x0100 [0xED, 0xAB] with b := 0x02, c := 0x00, h := 0x02, l := 0x00 }).placeBytes 0x0200 [0x01])
      (fun t => t.f == Flags.ofByte 0x11 && t.bc == 0x0100 && t.hl == 0x01FF) = true := by decide

/-! ### `HALT` in both modes (V125, V126) -/

theorem test_halt_spin : (haltAt .spin (start 0x0101 [0x76])).pc = 0x0100 := by decide

theorem test_halt_nop : (haltAt .nop (start 0x0101 [0x76])).pc = 0x0101 := by decide

/-! ### The trap (T1, T2, T3, T5 to T9, T11) and the signal -/

/-- A trap vector's state: `PC` at a magic address, `0108` on the stack. -/
def trapAt (pc : Word) : State := { State.reset with sp := 0xF000, pc := pc }.placeBytes 0xF000 [0x08, 0x01]

theorem test_t1_version :
    after { trapAt 0xFFED with b := 0x55, c := 0x0C, a := 0x99, f := Flags.ofByte 0xFF }
      (fun t => t.a == 0x22 && t.bc == 0x000C && t.hl == 0x0022 && t.f == Flags.ofByte 0xFF && t.sp == 0xF002 && t.pc == 0x0108 &&
        t.r == 0) = true := by decide

theorem test_t2_unsupported :
    after { trapAt 0xFFED with b := 0x55, c := 0xFF, h := 0x77, l := 0x77 }
      (fun t => t.a == 0 && t.bc == 0x00FF && t.hl == 0 && t.pc == 0x0108) = true := by decide

theorem test_t3_system_reset :
    after { trapAt 0xFFED with c := 0 }
      (fun t => t.terminate && t.termReason == .okTerm && t.sp == 0xF002 && t.pc == 0x0108) = true := by decide

theorem test_t5_wboot : after (trapAt 0xFFEF) (fun t => t.terminate && t.termReason == .okTerm && t.pc == 0x0108) = true := by decide

theorem test_t7_delay_hook :
    after { trapAt 0xFFFF with b := 0x12, c := 0x34 }
      (fun t => !t.terminate && t.c == 0x34 && t.sp == 0xF002 && t.pc == 0x0108 && t.mem == (trapAt 0xFFFF).mem) = true := by decide

theorem test_t9_set_iobyte :
    after { trapAt 0xFFED with c := 0x08, e := 0x95 }
      (fun t => t.readByte 0x0003 == 0x95 && t.readByte 0x0004 == 0 && t.sp == 0xF002) = true := by decide

theorem test_t11_stack_wraps :
    after ({ State.reset with sp := 0xFFFF, pc := 0xFFED, c := 0x0C }.placeBytes 0xFFFF [0x34, 0x12])
      (fun t => t.a == 0x22 && t.sp == 0x0001 && t.pc == 0x1234) = true := by decide

theorem test_a_due_signal_ends_the_run :
    after { start 0x0100 [0x3C] with signal := some 0 }
      (fun t => t.terminate && t.termReason == .errSignal && t.a == 0 && t.pc == 0x0100) = true := by decide

theorem test_a_terminated_machine_does_nothing :
    after { start 0x0100 [0x3C] with terminate := true, termReason := .okTerm } (fun t => t.a == 0 && t.pc == 0x0100) = true := by
  decide

theorem test_launch_reaches_the_program_placed_by_withFetchWord :
    after (State.reset.withFetchWord 16 0x473E) (fun t => t.a == 0x47 && t.pc == 0x0102) = true := by decide

/-- A launch with an image of `n` bytes 00. -/
def launchOf (n : Nat) : Launch :=
  { program := List.replicate n 0, driveUser := 0, fcb1 := List.replicate 16 0, fcb2 := List.replicate 16 0, tail := [0x20, 0x41],
    dpb := List.replicate 15 0, alv := List.replicate 64 0 }

theorem test_t8_seldsk :
    after { trapAt 0xFFF7 with c := 0x01, h := 0x77 } (fun t => t.hl == 0 && t.c == 0x01 && t.sp == 0xF002 && t.pc == 0x0108) = true := by
  decide

theorem test_t6_sectran : after { trapAt 0xFFFE with b := 0x12, c := 0x34 } (fun t => t.hl == 0x1234 && t.pc == 0x0108) = true := by
  decide

theorem test_an_image_that_reaches_the_bdos_stub_is_not_launched (any : State) :
    launchState any Config.resetLayout (launchOf 0xFD01) = none := by
  unfold launchState Launch.fits
  rw [if_neg]
  simp only [launchOf, List.length_replicate]
  rw [show decide (0x0100 + 0xFD01 ≤ Config.resetLayout.tpaEnd.toNat + 1) = false by decide]
  simp

/-- Launching an empty program over the reset state, under its own layout, is the reset state (log entries 1, 2, 4). -/
theorem test_reset_is_a_launch_state :
    launchState State.reset Config.resetLayout { launchOf 0 with tail := [] } = some State.reset := by decide +kernel

/-- Another layout: the whole of high memory moved, `WBOOT_TARGET` the vector's second entry. -/
def otherLayout : Config.Layout :=
  { spInit := 0xEFFE, wbootReturn := 0xE803, bdosStart := 0xE700, biosVector := 0xE800, wbootTarget := 0xE803, tpaEnd := 0xE5FF,
    serialNumber := 0xFFE7, dpbStart := 0xE710, alvStart := 0xE600 }

theorem test_launch_under_another_layout :
    (match launchState State.reset otherLayout (launchOf 3) with
      | some t => t.sp == 0xEFFE && t.readWord 0x0001 == 0xE803 && t.readWord 0x0006 == 0xE700 && t.readWord 0xE701 == 0xFFED &&
          t.readWord 0xE834 == 0xFFFF && t.readWord 0xEFFE == 0xE803 && t.alvAddr == 0xE600
      | none => false) = true := by decide +kernel

/-! ### Each statement's hypotheses can be met -/

theorem witness_DecodeOfEncode : (Instr.im2 7).wellFormed = true ∧ Instr.halt.wellFormed = true := by decide

theorem witness_StepRunsDecodedInstruction :
    (start 0x0100 [0xDD, 0x7E, 0x05]).running ∧ (3 : Nat) ≤ 65540 ∧
      decode ((start 0x0100 [0xDD, 0x7E, 0x05]).codeBytes 3) = .ok ⟨.ldRAtIx .a 0x05, 2, []⟩ ∧
      (Instr.ldRAtIx .a 0x05).isPrefix = false := by
  refine ⟨by decide, by decide, by rfl, by decide⟩

theorem witness_LastIndexPrefixDecides :
    (∀ p ∈ ([0xFD, 0xDD] : List Byte), p = 0xDD ∨ p = 0xFD) ∧ ((0xFD : Byte) = 0xDD ∨ (0xFD : Byte) = 0xFD) ∧
      ([0x7E, 0x05] : List Byte) ≠ [] := by decide

theorem witness_LastIndexPrefixDecides_without_effect :
    (Instr.exDeHl.wellFormed = true ∧ Instr.exDeHl.isPrefix = false ∧ Instr.exDeHl.plane = .base ∧
      (∀ b ∈ (encode .exDeHl).head?, changedByIndex b = false)) ∧
    (Instr.halt.isPrefix = false ∧ ∀ b ∈ (encode .halt).head?, changedByIndex b = false) ∧
    (Instr.ldir.wellFormed = true ∧ Instr.ldir.plane = .ed) ∧
    plainReg .a = some .a ∧ plainReg .b = some .b ∧ changedByIndex 0x84 = true ∧ changedByIndex 0x83 = false := by decide

theorem witness_CycleEndsUnlessAllPrefixes : State.reset.running ∧ { State.reset with pc := 0xFFEC }.running := by decide

/-- A list of `n` cells from `k` on, all holding `v`. -/
def filled (v : Byte) : Nat → Nat → Memory
  | 0, _ => []
  | n + 1, k => (k, v) :: filled v n (k + 1)

theorem get_filled (v : Byte) (n k a : Nat) (h : k ≤ a) (h' : a < k + n) : (filled v n k).get a = v := by
  induction n generalizing k with
  | zero => omega
  | succ n ih =>
    simp only [filled, Memory.get]
    split
    · rfl
    · exact ih (k + 1) (by omega) (by omega)

theorem witness_the_cycle_that_does_not_end :
    ∃ s : State, s.running ∧ ∀ a : Word, s.readByte a = 0xDD ∨ s.readByte a = 0xFD :=
  ⟨{ State.reset with mem := filled 0xDD 65536 0 }, by decide,
    fun a => .inl (get_filled _ _ _ _ (Nat.zero_le _) (by have := a.isLt; omega))⟩

theorem witness_PrefixBytesSelectPlanes :
    (Instr.prefixFdAfterFd, [0xFD, 0xFD], Plane.fd) ∈
      ([(Instr.prefixCb, [0xCB], Plane.cb), (.prefixFdAfterFd, [0xFD, 0xFD], .fd)] : List (Instr × List Byte × Plane)) := by decide

theorem witness_TerminationAndSignalComeFirst :
    { State.reset with terminate := true }.terminate = true ∧
      ({ State.reset with signal := some 0 }.terminate = false ∧ { State.reset with signal := some 0 }.signal = some 0) := by decide

theorem witness_TrapCycleFrame_first_entry : trapping (trapAt 0xFFED) 0 ∧ ∃ t, step (trapAt 0xFFED) = .next t :=
  ⟨by unfold trapping; decide, _, rfl⟩

theorem witness_TrapCycleFrame_last_entry : trapping (trapAt 0xFFFF) 18 ∧ ∃ t, step (trapAt 0xFFFF) = .next t :=
  ⟨by unfold trapping; decide, _, rfl⟩

theorem witness_BdosByteResults (c : Byte) : trapping { trapAt 0xFFED with c := c } 0 := by
  unfold trapping; exact ⟨rfl, show (none : Option Nat) ≠ some 0 by decide, rfl⟩

theorem witness_BdosByteResults_clauses :
    (0x07 : Byte).toNat = 7 ∧ (0x0C : Byte).toNat = 12 ∧ (0x65 : Byte).toNat = 101 ∧ bdosUnsupported (0x26 : Byte).toNat = true ∧
      bdosUnsupported (0x8C : Byte).toNat = true ∧ bdosUnsupported (0xFF : Byte).toNat = true ∧
      bdosUnsupported (0x8D : Byte).toNat = false := by decide

theorem witness_BdosByteResults_other_clauses :
    trapping { trapAt 0xFFED with c := 11 } 0 ∧ trapping { trapAt 0xFFED with c := 8 } 0 ∧
      (let s := { trapAt 0xFFED with c := 9, d := 0xFF, e := 0xFF }.placeBytes 0xFFFF [0x24];
        trapping s 0 ∧ s.c.toNat = 9 ∧ s.de ≤ 0xFFFF ∧ s.readByte 0xFFFF = 0x24) := by
  unfold trapping; decide

theorem witness_TrapCycleFrame_file_function :
    trapping { trapAt 0xFFED with c := 20 } 0 ∧ fileNumbers.contains (20 : Byte).toNat = true ∧
      36 ≤ ((0x0100 : Word) - { trapAt 0xFFED with c := 20 }.de).toNat ∧
      128 ≤ ((0x0100 : Word) - { trapAt 0xFFED with c := 20 }.dma).toNat ∧
      ∃ t, step { trapAt 0xFFED with c := 20 } = .next t :=
  ⟨by unfold trapping; decide, by decide, by decide, by decide, _, rfl⟩

theorem witness_BiosWordResults :
    trapping (trapAt 0xFFF7) 10 ∧ trapping (trapAt 0xFFFE) 17 ∧ trapping (trapAt 0xFFFF) 18 ∧
      trapping { trapAt 0xFFED with c := 27 } 0 ∧ trapping { trapAt 0xFFED with c := 31 } 0 := by
  unfold trapping; decide

theorem witness_LaunchState_layouts : LayoutConditions Config.resetLayout ∧ LayoutConditions otherLayout := by
  unfold LayoutConditions; decide

theorem witness_LaunchState_longest_image :
    0x0100 + (launchOf 0xFD00).program.length ≤ Config.resetLayout.tpaEnd.toNat + 1 ∧ (launchOf 0xFD00).fcb1.length = 16 ∧
      (launchOf 0xFD00).fcb2.length = 16 ∧ (launchOf 0xFD00).tail.length ≤ 127 ∧
      (∀ v ∈ (launchOf 0xFD00).tail, v.toNat < 0x61 ∨ 0x7A < v.toNat) ∧ (launchOf 0xFD00).dpb.length = 15 ∧
      (launchOf 0xFD00).alv.length = 64 ∧ Config.resetLayout.tpaEnd.toNat < 0x00FF + (launchOf 0xFD01).program.length := by
  refine ⟨?_, by decide, by decide, by decide, by decide, by decide, by decide, ?_⟩ <;>
    simp only [launchOf, List.length_replicate] <;> decide

theorem witness_LaunchMeetsInv : State.reset.mem.wf = true ∧ ∃ t, launchState State.reset otherLayout (launchOf 3) = some t := by
  refine ⟨rfl, Option.isSome_iff_exists.1 ?_⟩
  unfold launchState
  rw [if_pos (by decide)]; rfl

theorem witness_TrapsThatEndTheRun :
    trapping { trapAt 0xFFED with c := 0 } 0 ∧ trapping (trapAt 0xFFEE) 1 ∧ trapping (trapAt 0xFFEF) 2 := by
  unfold trapping; decide

theorem witness_TrapsThatEndTheRun_without_a_dollar :
    ∃ s : State, trapping s 0 ∧ s.c = 9 ∧ ∀ a : Word, s.de ≤ a → s.readByte a ≠ 0x24 := by
  refine ⟨{ trapAt 0xFFED with c := 9, d := 0xFF, e := 0xFF }, by unfold trapping; decide, rfl, fun a h => ?_⟩
  have : a = 0xFFFF := by
    have h2 : a.toNat < 65536 := a.isLt
    have h1 : 65535 ≤ a.toNat := h
    apply BitVec.eq_of_toNat_eq; simp; omega
  subst this; decide

theorem witness_StepKeepsInv : State.reset.Inv ∧ ∃ t, step State.reset = .next t := ⟨by decide, _, rfl⟩

theorem witness_StepKeepsInv_at_a_due_signal :
    { State.reset with signal := some 0 }.Inv ∧ ∃ t, step { State.reset with signal := some 0 } = .next t := ⟨by decide, _, rfl⟩

theorem witness_ControlRegisterWriters (s : State) :
    (∃ t, exec .nop s = .next t) ∧ Instr.nop ≠ .ei ∧ Instr.nop ≠ .di ∧ Instr.nop ≠ .ldIA ∧ Instr.nop ≠ .ldRA :=
  ⟨⟨_, rfl⟩, by decide⟩

theorem witness_ShadowSetOnlySwaps (s : State) : (∃ t, exec .exDeHl s = .next t) ∧ Instr.exDeHl ≠ .exAfAf ∧ Instr.exDeHl ≠ .exx :=
  ⟨⟨_, rfl⟩, by decide⟩

theorem witness_StackPointerWriters (s : State) :
    (∃ t, exec .exAtSpHl s = .next t) ∧ writesSp .exAtSpHl = false ∧ writesSp (.incSs .hl) = false ∧
      writesSp (.ldDdNn .hl 0) = false := ⟨⟨_, rfl⟩, rfl, rfl, rfl⟩

theorem witness_LatchIsTheIndexedAddress (s : State) :
    (∃ t, exec (.srlAtIyR 0x80 .a) s = .next t) ∧ indexedBy (.srlAtIyR 0x80 .a) = some (.iy, 0x80) ∧
      indexedBy (.ldIxhN .hi 0x46) = none := ⟨⟨_, rfl⟩, by decide⟩

theorem witness_OnlyStoringInstructionsChangeMemory (s : State) :
    (∃ t, exec .outi s = .next t) ∧ storesMemory .outi = false := ⟨⟨_, rfl⟩, rfl⟩

theorem witness_ReadAfterWrite : State.reset.mem.wf = true ∧ ((State.reset.writeByte 0xFFFF 0x24).writeByte 0 0x24).mem.wf = true := by
  decide

theorem witness_LoadPair : (Pair.sp : Pair) ≠ .hl := by decide

theorem witness_conditions (cc : Cond) : ∃ f g, condHolds cc f ∧ ¬condHolds cc g := by
  cases cc <;>
    first
    | exact ⟨Flags.clear, Flags.ofByte 0xFF, rfl, by simp [condHolds, Flags.ofByte]⟩
    | exact ⟨Flags.ofByte 0xFF, Flags.clear, rfl, by simp [condHolds, Flags.clear]⟩

theorem witness_DecimalAdjustAfterAddition :
    (0x99 : Byte).toNat % 16 ≤ 9 ∧ (0x99 : Byte).toNat / 16 ≤ 9 ∧ (0x00 : Byte).toNat % 16 ≤ 9 ∧ (0x00 : Byte).toNat / 16 ≤ 9 := by
  decide

theorem witness_NoOperationsAndInterruptEnable :
    ((start 0x0100 [0x00]).running ∧ (start 0x0100 [0x00]).plane = .base ∧ (start 0x0100 [0x00]).readByte 0x0100 = 0x00) ∧
    ((start 0xFFEC [0xED]).running ∧ edUnassigned ((start 0xFFEC [0xED]).readByte 0xFFED) = true) ∧
    ((start 0x0100 [0xED, 0x46]).readByte 0x0101 &&& 0xC7 = 0x46 ∧ (start 0x0100 [0xED, 0x7E]).readByte 0x0101 &&& 0xC7 = 0x46) ∧
    (start 0x0100 [0xF3]).readByte 0x0100 = 0xF3 ∧ (start 0x0100 [0xFB]).readByte 0x0100 = 0xFB := by decide

end Sys2Proof.Tests
end

/-! PROOFS. The launch (O15): the layout's conditions as the loader tests them, what each placed region reads as, and the statement. -/

namespace Sys2Proof.Machine

open Sys2Proof.Claims

/-- A literal address as a number. -/
theorem toNat_word_literal (n : Nat) : (ofNat(n) : Word).toNat = n % 65536 := BitVec.toNat_ofNat n 16

/-! ### The loader's tests -/

/-- What the spec asks of the open addresses passes the loader's own test. -/
theorem layoutOk_of_layoutConditions {y : Config.Layout} (h : LayoutConditions y) : layoutOk y = true := by
  obtain ⟨htarget, hreturn, hplaces⟩ := h
  simp only [layoutOk, apart, Bool.and_eq_true, Bool.or_eq_true, beq_iff_eq, decide_eq_true_eq, BitVec.lt_def, BitVec.le_def,
    toNat_word_literal, and_assoc, or_assoc]
  exact ⟨htarget, hreturn, by omega⟩

/-- A character outside `a` to `z` is no lower-case letter. -/
theorem isLower_eq_false {v : Byte} (h : v.toNat < 0x61 ∨ 0x7A < v.toNat) : isLower v = false := by
  simp only [isLower, Bool.and_eq_false_iff, decide_eq_false_iff_not]
  omega

/-- An image that reaches past `TPA_END` does not fit (R620). -/
theorem fits_eq_false_of_long {y : Config.Layout} {l : Launch} (h : y.tpaEnd.toNat < 0x00FF + l.program.length) :
    l.fits y = false := by
  have hlong : ¬0x0100 + l.program.length ≤ y.tpaEnd.toNat + 1 := by omega
  simp [Launch.fits, hlong]

/-- The lengths that the loader's test leaves open, bounded. -/
theorem lengths_of_fits {y : Config.Layout} {l : Launch} (hf : l.fits y = true) :
    0x0100 + l.program.length ≤ y.tpaEnd.toNat + 1 ∧ l.tail.length ≤ 127 := by
  simp only [Launch.fits, Bool.and_eq_true, decide_eq_true_eq, and_assoc] at hf
  obtain ⟨hprogram, -, -, htail, -⟩ := hf
  exact ⟨hprogram, htail⟩

/-! ### A run of bytes in memory -/

/-- The bytes `vs` stand in memory from `a` on. -/
def State.Holds (s : State) (a : Word) (vs : List Byte) : Prop :=
  ∀ k, k < vs.length → s.readByte (a + BitVec.ofNat 16 k) = vs.getD k 0

/-- The next address behind a numbered one. -/
theorem add_ofNat_add_one (a : Word) (k : Nat) : a + BitVec.ofNat 16 k + 1 = a + BitVec.ofNat 16 (k + 1) := by
  rw [BitVec.ofNat_add, BitVec.add_assoc]; rfl

theorem State.Holds.readByte_eq_head {s : State} {a : Word} {v : Byte} {vs : List Byte} (h : s.Holds a (v :: vs)) :
    s.readByte a = v := by
  simpa using h 0 (by simp)

theorem State.Holds.tail {s : State} {a : Word} {v : Byte} {vs : List Byte} (h : s.Holds a (v :: vs)) : s.Holds (a + 1) vs := by
  intro k hk
  rw [add_right_comm, add_ofNat_add_one, h (k + 1) (by simpa using hk), List.getD_cons_succ]

theorem State.Holds.of_append {s : State} {a : Word} {us vs : List Byte} (h : s.Holds a (us ++ vs)) : s.Holds a us := by
  intro k hk
  rw [h k (by rw [List.length_append]; omega), List.getD_append _ _ _ _ hk]

/-- A byte of the run, by its address. -/
theorem State.Holds.readByte_eq {s : State} {a x : Word} {vs : List Byte} (h : s.Holds a vs) (hle : a ≤ x)
    (hlt : x.toNat - a.toNat < vs.length) : s.readByte x = vs.getD (x.toNat - a.toNat) 0 := by
  have hx : a + BitVec.ofNat 16 (x.toNat - a.toNat) = x := by bv_omega
  rw [← h _ hlt, hx]

/-- The bytes, read in order. -/
theorem State.Holds.map_range {s : State} {a : Word} {vs : List Byte} (h : s.Holds a vs) :
    ((List.range vs.length).map fun k => s.readByte (a + BitVec.ofNat 16 k)) = vs := by
  refine List.ext_getElem (by simp) fun k hk hk' => ?_
  rw [List.getElem_map, List.getElem_range, h k hk', List.getD_eq_getElem _ _ hk']

/-- Two bytes in memory order read as their word (R73, R75). -/
theorem State.Holds.readWord_eq {s : State} {a w : Word} (h : s.Holds a (wordLowFirst w)) : s.readWord a = w := by
  rw [State.readWord, h.tail.readByte_eq_head, h.readByte_eq_head, joinBytes_hi_lo]

/-- A jump in memory: its opcode, then its target (R471). -/
theorem State.Holds.jumpTo {s : State} {a w : Word} (h : s.Holds a (jumpTo w)) : s.readByte a = 0xC3 ∧ s.readWord (a + 1) = w :=
  ⟨h.readByte_eq_head, h.tail.readWord_eq⟩

/-- The BIOS vector in memory: a jump to its own magic address in each of 18 entries (R80). -/
theorem State.Holds.biosEntries {s : State} {a : Word} (h : s.Holds a biosEntries) (k : Fin 18) :
    s.readByte (a + BitVec.ofNat 16 (3 * k)) = 0xC3 ∧
      s.readWord (a + BitVec.ofNat 16 (3 * k + 1)) = BitVec.ofNat 16 (0xFFEE + k) := by
  have hk := k.isLt
  obtain ⟨hop, htarget⟩ := getD_biosEntries k
  refine ⟨by rw [h _ (by simp; omega), hop], ?_⟩
  rw [State.readWord, add_ofNat_add_one, h _ (by simp; omega), h _ (by simp; omega), htarget]

/-! ### The placed regions -/

/-- Where a region starts, and its length. -/
def extent (r : Word × List Byte) : Nat × Nat := (r.1.toNat, r.2.length)

/-- Two extents share no address, in the loader's own words (R622). -/
def ExtentsApart (e g : Nat × Nat) : Prop := apart e.1 e.2 g.1 g.2 = true

theorem extentsApart_iff (e g : Nat × Nat) : ExtentsApart e g ↔ e.1 + e.2 ≤ g.1 ∨ g.1 + g.2 ≤ e.1 := by
  simp [ExtentsApart, apart]

/-- Two regions share no address. -/
def RegionsApart (r q : Word × List Byte) : Prop := ExtentsApart (extent r) (extent q)

/-- Regions that do not wrap leave every address outside them. -/
theorem State.readByte_placeRegions_of_outside {rs : List (Word × List Byte)} {x : Word}
    (hout : ∀ r ∈ rs, r.1.toNat + r.2.length ≤ 65536 ∧ ¬(r.1.toNat ≤ x.toNat ∧ x.toNat < r.1.toNat + r.2.length)) (s : State) :
    (s.placeRegions rs).readByte x = s.readByte x := by
  induction rs generalizing s with
  | nil => rfl
  | cons r rs ih =>
    obtain ⟨⟨hlen, hr⟩, hrs⟩ := List.forall_mem_cons.1 hout
    rw [State.placeRegions, ih hrs, State.readByte_placeBytes_of_le _ _ _ _ hlen, if_neg hr]

/-- Of regions that are apart and do not wrap, each holds its own bytes. -/
theorem State.holds_placeRegions {rs : List (Word × List Byte)} (hapart : rs.Pairwise RegionsApart)
    (hlen : ∀ r ∈ rs, r.1.toNat + r.2.length ≤ 65536) (s : State) {a : Word} {vs : List Byte} (hr : (a, vs) ∈ rs) :
    (s.placeRegions rs).Holds a vs := by
  induction rs generalizing s with
  | nil => cases hr
  | cons r rs ih =>
    obtain ⟨hfirst, hrest⟩ := List.pairwise_cons.1 hapart
    obtain ⟨hlenr, hlenrs⟩ := List.forall_mem_cons.1 hlen
    obtain rfl | hmem := List.mem_cons.1 hr
    · intro k hk
      have hend : a.toNat + vs.length ≤ 65536 := hlenr
      have hx : (a + BitVec.ofNat 16 k).toNat = a.toNat + k := by
        rw [BitVec.toNat_add, BitVec.toNat_ofNat]; omega
      rw [State.placeRegions, State.readByte_placeRegions_of_outside, State.readByte_placeBytes_of_le _ _ _ _ hend, hx,
        if_pos ⟨by omega, by omega⟩, Nat.add_sub_cancel_left]
      intro q hq
      have hq' : a.toNat + vs.length ≤ q.1.toNat ∨ q.1.toNat + q.2.length ≤ a.toNat := (extentsApart_iff _ _).1 (hfirst q hq)
      exact ⟨hlenrs q hq, by omega⟩
    · exact ih hrest hlenrs _ hmem

/-- The places the loader fills, in its order. -/
theorem map_extent_regions {y : Config.Layout} {l : Launch} (hf : l.fits y = true) :
    (layoutRegions y ++ l.regions y).map extent =
      [(0x0000, 4), (0x0005, 3), (y.bdosStart.toNat, 3), (y.biosVector.toNat, 54), (y.serialNumber.toNat, 6), (y.spInit.toNat, 2),
        (0xFFED, 19), (0x0004, 1), (0x005C, 16), (0x006C, 16), (0x0080, l.tail.length + 1), (0x0100, l.program.length),
        (y.dpbStart.toNat, 15), (y.alvStart.toNat, 64)] := by
  simp only [Launch.fits, Bool.and_eq_true, decide_eq_true_eq, and_assoc] at hf
  obtain ⟨-, hfcb1, hfcb2, -, -, hdpb, halv⟩ := hf
  simp [layoutRegions, Launch.regions, extent, hfcb1, hfcb2, hdpb, halv, Config.magicAddress]

section
variable {y : Config.Layout} {l : Launch} (hc : LayoutConditions y) (hf : l.fits y = true)
include hc hf

/-- Under the spec's conditions the loader's regions are apart (R622, D19). -/
theorem regionsApart_of_layoutConditions : (layoutRegions y ++ l.regions y).Pairwise RegionsApart := by
  have hextents : ((layoutRegions y ++ l.regions y).map extent).Pairwise ExtentsApart := by
    rw [map_extent_regions hf]
    simp only [LayoutConditions] at hc
    obtain ⟨hprogram, htail⟩ := lengths_of_fits hf
    simp only [List.pairwise_cons, List.forall_mem_cons, extentsApart_iff, List.not_mem_nil, false_imp_iff, implies_true, and_true,
      List.Pairwise.nil]
    and_intros
    all_goals omega
  exact (List.pairwise_map (f := extent) (R := ExtentsApart)).1 hextents

/-- No region of the loader wraps. -/
theorem regions_end_le : ∀ r ∈ layoutRegions y ++ l.regions y, r.1.toNat + r.2.length ≤ 65536 := by
  have hextents : ∀ e ∈ (layoutRegions y ++ l.regions y).map extent, e.1 + e.2 ≤ 65536 := by
    rw [map_extent_regions hf]
    simp only [LayoutConditions] at hc
    obtain ⟨hprogram, htail⟩ := lengths_of_fits hf
    simp only [List.forall_mem_cons, List.not_mem_nil, false_imp_iff, implies_true, and_true]
    omega
  exact List.forall_mem_map.1 hextents

/-- After the launch's placing each region holds its own bytes. -/
theorem State.holds_launchRegion (s : State) {a : Word} {vs : List Byte} (hr : (a, vs) ∈ layoutRegions y ++ l.regions y) :
    (s.placeRegions (layoutRegions y ++ l.regions y)).Holds a vs :=
  State.holds_placeRegions (regionsApart_of_layoutConditions hc hf) (regions_end_le hc hf) s hr

/-- An address that no region describes keeps its byte. -/
theorem State.readByte_placeRegions_of_undescribed (s : State) {a : Word} (ha : undescribed y l a) :
    (s.placeRegions (layoutRegions y ++ l.regions y)).readByte a = s.readByte a := by
  have hread := State.readByte_placeRegions s a (layoutOk_of_layoutConditions hc) hf
  simp only [undescribed, List.forall_mem_cons, List.not_mem_nil, false_imp_iff, implies_true, and_true] at ha
  simp (disch := omega) only [hread, if_neg]

end

/-! ### The reset image -/

/-- The magic page of the launch image holds returns (R78, R622). -/
theorem readByte_reset_of_magic {a : Word} (h : 0xFFED ≤ a) : State.reset.readByte a = 0xC9 := by
  have hmagic : Config.magicAddress.toNat ≤ a.toNat := h
  have hnum : 0xFFED ≤ a.toNat := h
  have hstub : Config.bdosStart.toNat = 0xFE00 := rfl
  change Memory.launch a.toNat = 0xC9
  unfold Memory.launch
  rw [if_neg (by omega), if_neg (by omega), if_pos hmagic]

end Sys2Proof.Machine

namespace Sys2Proof.Proofs.Scope

open Sys2Proof.Machine Sys2Proof.Claims

/-- R620 to R624 row by row: each row of R622 is a region that the launch leaves whole. -/
theorem launchOfProgram : LaunchOfProgram := by
  intro any y l
  refine ⟨fun hlong => ?_, fun hc hprogram hfcb1 hfcb2 htail hupper hdpb halv => ?_⟩
  · simp [launchState, fits_eq_false_of_long hlong]
  have hf : l.fits y = true := by
    have hlower : ∀ v ∈ l.tail, isLower v = false := fun v hv => isLower_eq_false (hupper v hv)
    simpa [Launch.fits, hprogram, hfcb1, hfcb2, htail, hdpb, halv] using hlower
  refine ⟨_, (launchState_eq_some any _ y l).2 ⟨⟨layoutOk_of_layoutConditions hc, hf⟩, rfl⟩, State.placeRegions_eq _ _, ?_⟩
  have row {a : Word} {vs : List Byte} (hr : (a, vs) ∈ layoutRegions y ++ l.regions y) :=
    State.holds_launchRegion hc hf (launchRegisters any y) hr
  generalize ht : (launchRegisters any y).placeRegions _ = t at row ⊢
  have hwboot : t.Holds 0x0000 (jumpTo y.wbootTarget ++ [0x00]) := row (by simp [layoutRegions])
  have hbdos : t.Holds 0x0005 (jumpTo y.bdosStart) := row (by simp [layoutRegions])
  have hstub : t.Holds y.bdosStart (jumpTo Config.magicAddress) := row (by simp [layoutRegions])
  have hvector : t.Holds y.biosVector biosEntries := row (by simp [layoutRegions])
  have hserial : t.Holds y.serialNumber [0x00, 0x16, 0x00, 0xC0, 0xFF, 0xEE] := row (by simp [layoutRegions])
  have hstack : t.Holds y.spInit (wordLowFirst y.wbootReturn) := row (by simp [layoutRegions])
  have hmagic : t.Holds Config.magicAddress (List.replicate 19 0xC9) := row (by simp [layoutRegions])
  have hdrive : t.Holds 0x0004 [l.driveUser] := row (by simp [Launch.regions])
  have hblock1 : t.Holds 0x005C l.fcb1 := row (by simp [Launch.regions])
  have hblock2 : t.Holds 0x006C l.fcb2 := row (by simp [Launch.regions])
  have hcommand : t.Holds 0x0080 (BitVec.ofNat 8 l.tail.length :: l.tail) := row (by simp [Launch.regions])
  have himage : t.Holds 0x0100 l.program := row (by simp [Launch.regions])
  have hparams : t.Holds y.dpbStart l.dpb := row (by simp [Launch.regions])
  have hvectors : t.Holds y.alvStart l.alv := row (by simp [Launch.regions])
  obtain ⟨hop0, htarget0⟩ := hwboot.of_append.jumpTo
  obtain ⟨hop5, htarget5⟩ := hbdos.jumpTo
  obtain ⟨hopStub, htargetStub⟩ := hstub.jumpTo
  have hreturns (a : Word) (ha : 0xFFED ≤ a) : t.readByte a = 0xC9 := by
    have hlt : a.toNat - Config.magicAddress.toNat < 19 := by simp only [Config.magicAddress, toNat_word_literal]; omega
    rw [hmagic.readByte_eq ha (by simpa using hlt), List.getD_replicate _ hlt]
  have hkeeps (a : Word) (ha : undescribed y l a) : t.readByte a = any.readByte a := by
    rw [← ht, State.readByte_placeRegions_of_undescribed hc hf _ ha]; rfl
  exact ⟨himage, hop0, htarget0, hwboot 3 (by simp), hdrive.readByte_eq_head, hop5, htarget5,
    fun k hk => hblock1 k (by omega), fun k hk => hblock2 k (by omega), hcommand.readByte_eq_head, hcommand.tail,
    hopStub, htargetStub, fun k hk => hparams k (by omega), fun k hk => hvectors k (by omega), hvector.biosEntries,
    hserial.map_range, hstack.readWord_eq, hreturns, hkeeps⟩

/-- Settles O15: the program's launch by its regions, `State.reset` by evaluation. -/
theorem launchState : Obligations.LaunchState := by
  unfold Obligations.LaunchState
  refine ⟨launchOfProgram, rfl, rfl, rfl, by decide, by decide, by decide, by decide, .inl (by decide),
    fun a => readByte_reset_of_magic, by decide, by decide, by decide, 1, _, rfl, rfl⟩

end Sys2Proof.Proofs.Scope

/-! PROOFS. The state (family 10_state.md): what an instruction leaves alone, the invariant of a cycle boundary, push and pop. -/

namespace Sys2Proof

open Sys2Proof.Claims

/-! ### Words and flags in the claims' own formulas -/

theorem joinBytes_eq_word (hi lo : Byte) : joinBytes hi lo = word hi lo := by
  rw [word, ← joinBytes_toNat, BitVec.ofNat_toNat, BitVec.setWidth_eq]

theorem loByte_eq_setWidth (w : Word) : loByte w = w.setWidth 8 := by
  apply BitVec.eq_of_toNat_eq
  simp [loByte]

theorem hiByte_eq_setWidth (w : Word) : hiByte w = (w >>> 8).setWidth 8 := by
  apply BitVec.eq_of_toNat_eq
  simp [hiByte]

end Sys2Proof

namespace Sys2Proof.Machine

open Sys2Proof.Claims

/-- The bits of the pushed `F` (D20): each is the flag that a pop of the byte would load. -/
theorem Flags.getLsbD_toByte (f : Flags) (k : Fin 8) :
    f.toByte.getLsbD k.val = [f.c, f.n, f.pv, f.x, f.h, f.y, f.z, f.s].getD k.val false := by
  have hload : Flags.ofByte f.toByte = f := Flags.ofByte_toByte f
  match k with
  | 0 => exact congrArg Flags.c hload
  | 1 => exact congrArg Flags.n hload
  | 2 => exact congrArg Flags.pv hload
  | 3 => exact congrArg Flags.x hload
  | 4 => exact congrArg Flags.h hload
  | 5 => exact congrArg Flags.y hload
  | 6 => exact congrArg Flags.z hload
  | 7 => exact congrArg Flags.s hload

/-- The effective address in the claims' formula (R115). -/
theorem State.ea_eq_ofInt (s : State) (xy : Index) (d : Byte) :
    s.ea xy d = BitVec.ofInt 16 ((s.index xy).toNat + d.toInt) := by
  rw [BitVec.ofInt_add, BitVec.ofInt_natCast, BitVec.ofNat_toNat, BitVec.setWidth_eq]; rfl

/-! ### What one instruction does to the state -/

/-- Every instruction has a next state (R560). -/
theorem exists_exec_eq_next (i : Instr) (s : State) : ∃ t, exec i s = .next t := by
  cases i <;> exact ⟨_, rfl⟩

/-- The part of the state that ordinary instructions leave alone: `AF` to `HL`, `IX`, `IY`, `SP`, `PC`, `LATCH` and memory are blotted
out. -/
def State.control (s : State) : State :=
  { s with
    a := 0, f := Flags.clear, b := 0, c := 0, d := 0, e := 0, h := 0, l := 0, ix := 0, iy := 0, sp := 0, pc := 0, latch := 0,
    mem := [] }

/-- The instructions that reach that part, each with the whole state it leaves (R33, R42, R43, R45, R102); any other keeps it. -/
inductive ControlEffect (s : State) : Instr → State → Prop
  | kept {i : Instr} {t : State} (h : t.control = s.control) : ControlEffect s i t
  | di : ControlEffect s .di { s with iff := false }
  | ei : ControlEffect s .ei { s with iff := true }
  | ldIA : ControlEffect s .ldIA { s with i := s.a }
  | ldRA : ControlEffect s .ldRA { s with r := s.a }
  | exAfAf : ControlEffect s .exAfAf { s with a := s.a', f := s.f', a' := s.a, f' := s.f }
  | exx : ControlEffect s .exx s.swapBanks
  | plane {i : Instr} (h : i.isPrefix = true) : ControlEffect s i { s with plane := i.nextPlane }

/-- `LATCH` after an instruction whose indexed operand is `operand` (R47, R115). -/
def State.latchAfter (s : State) (operand : Option (Index × Byte)) : Word :=
  operand.elim s.latch fun indexed => s.ea indexed.1 indexed.2

/-- What any instruction may do to the state, the general registers and `PC` apart. -/
structure ExecFrame (i : Instr) (s t : State) : Prop where
  control : ControlEffect s i t
  sp : writesSp i = true ∨ t.sp = s.sp
  latch : t.latch = s.latchAfter (indexedBy i)
  wf : s.mem.wf = true → t.mem.wf = true

/-- Constructor by constructor. The operand cases that the tables `writesSp` and `indexedBy` look at are split first, so that the tables
evaluate; then the operation each meaning calls says what it leaves. -/
theorem execFrame_of_exec {i : Instr} {s t : State} (h : exec i s = .next t) : ExecFrame i s t := by
  cases i <;> (injection h with h; subst h)
  case di => exact ⟨.di, .inr rfl, rfl, id⟩
  case ei => exact ⟨.ei, .inr rfl, rfl, id⟩
  case ldIA => exact ⟨.ldIA, .inr rfl, rfl, id⟩
  case ldRA => exact ⟨.ldRA, .inr rfl, rfl, id⟩
  case exAfAf => exact ⟨.exAfAf, .inr rfl, rfl, id⟩
  case exx => exact ⟨.exx, .inr rfl, rfl, id⟩
  case prefixCb | prefixDd | prefixEd | prefixFd | prefixDdCb | prefixDdAfterDd | prefixEdAfterDd | prefixFdAfterDd | prefixFdCb |
      prefixDdAfterFd | prefixEdAfterFd | prefixFdAfterFd => exact ⟨.plane rfl, .inr rfl, rfl, id⟩
  case' jpCcNn | jrCcE | callCcNn | retCc => split
  case' ldDdNn dd _ | ldDdAtNn dd _ | incSs dd | decSs dd => cases dd
  case' ldRAtIx r _ | ldRAtIy r _ | ldAtIxR _ r | ldAtIyR _ r => cases r
  case' ldPP xy _ _ => cases xy
  case' ldIxhN half _ | ldIyhN half _ => cases half
  all_goals
    refine ⟨.kept ?_, ?_, ?_, fun hwf => ?_⟩
    on_goal 2 => conv in writesSp _ => whnf
    on_goal 3 => conv in indexedBy _ => whnf
    all_goals
      simp [*, -BitVec.toNat_add, -BitVec.toNat_sub, State.control, State.latchAfter, Memory.wf_set_word, loadIndexed_eq,
        storeIndexed_eq, loadAWithIff_eq, alu_eq, incOperand_eq, decOperand_eq, addHl_eq, addIndex_eq, adcHl_eq, sbcHl_eq,
        rotateA, rotate_eq, rotateCopy_eq, rotateDigitLeft, rotateDigitRight, modifyBit_eq, modifyBitCopy_eq, bitIndexed_eq,
        blockLoad_eq, blockCompare_eq, blockIn_eq, blockOut_eq, repeatBlock_eq, portWrite, decrementAndJump_eq, haltAt_eq]

/-- No instruction writes the termination pair or what is the environment's (R48), and one that ends its cycle leaves the plane. -/
theorem untouched_of_exec {i : Instr} {s t : State} (h : exec i s = .next t) :
    t.terminate = s.terminate ∧ t.termReason = s.termReason ∧ t.signal = s.signal ∧ t.env = s.env ∧ t.dma = s.dma ∧
      t.dpbAddr = s.dpbAddr ∧ t.alvAddr = s.alvAddr ∧ (i.isPrefix = false → t.plane = s.plane) := by
  cases (execFrame_of_exec h).control with
  | kept hc =>
    simp only [State.control, State.mk.injEq] at hc
    simp [hc]
  | plane hp => simp [hp]
  | _ => simp

/-! ### The invariant of a cycle boundary -/

/-- The end of the run keeps the invariant for every reason but the one of a run that goes on (R48). -/
theorem State.Inv.stopWith {s : State} (h : s.Inv) {reason : TermReason} (hr : reason ≠ .okNotRun) : (s.stopWith reason).Inv := by
  obtain ⟨hwf, -, hplane⟩ := h
  exact ⟨hwf, by simp [State.stopWith, hr], hplane⟩

theorem State.Inv.deliverSignal {s : State} (h : s.Inv) : (deliverSignal s).Inv :=
  State.Inv.stopWith (reason := .errSignal) h (by decide)

/-- A handler that ends the run writes a reason of its own; one that does not leaves the termination pair (R571, R576). -/
theorem State.Inv.applyTrap {s : State} (h : s.Inv) (e : TrapEffect) : (s.applyTrap e).Inv := by
  obtain ⟨hwf, hterm, hplane⟩ := h
  rw [State.applyTrap_eq]
  refine ⟨State.wf_writeBytes e.writes hwf, ?_, by simpa using hplane⟩
  cases e.stop with
  | none => simpa using hterm
  | some reason => simp [reason.toTermReason_ne.1]

theorem State.Inv.takeTrap {s : State} (h : s.Inv) (e : TrapEffect) : (takeTrap e s).Inv := by
  rw [takeTrap_eq]
  exact h.applyTrap e

theorem State.Inv.race {t : State} (h : t.Inv) (r : EnvResponse) : (r.race t).Inv := by
  unfold EnvResponse.race
  split
  · exact h.stopWith (by decide)
  · exact h

theorem State.Inv.trapCycle {s t : State} (h : s.Inv) (ht : trapCycle s = .next t) : t.Inv := by
  unfold Machine.trapCycle at ht
  dsimp only at ht
  split at ht
  · cases ht
    exact (h.takeTrap _).race _
  · cases ht

/-- Whatever plane a cycle starts its next element in, it ends in the base plane, with the termination pair as it was (R101, R102). -/
theorem inv_of_instructionCycle {n : Nat} {s t : State} (ht : instructionCycle n s = .next t) (hwf : s.mem.wf = true)
    (hterm : s.terminate = false ↔ s.termReason = .okNotRun) : t.Inv := by
  induction n generalizing s with
  | zero => cases ht
  | succ n ih =>
    cases hp : (fetchElem s).instr.isPrefix with
    | true =>
      rw [instructionCycle_of_isPrefix n s hp] at ht
      exact ih ht hwf hterm
    | false =>
      rw [instructionCycle_of_not_isPrefix n s hp] at ht
      obtain ⟨hterminate, hreason, -, -, -, -, -, hplane⟩ := untouched_of_exec ht
      refine ⟨(execFrame_of_exec ht).wf hwf, ?_, hplane hp⟩
      rw [hterminate, hreason]
      exact hterm

theorem State.Inv.boundary {s t : State} (h : s.Inv) (ht : boundary s = .next t) : t.Inv := by
  unfold Machine.boundary runCycle at ht
  split at ht
  · cases ht
    exact h
  · split at ht
    · cases ht
      exact h.deliverSignal
    · split at ht
      · exact State.Inv.trapCycle (s := s.tick) h ht
      · obtain ⟨hwf, hterm, -⟩ := h
        exact inv_of_instructionCycle ht hwf hterm

/-- The launch starts in the base plane, not terminated, and stores keep the canonical form (R52, R620). -/
theorem inv_of_launchState {any t : State} {y : Config.Layout} {l : Launch} (hwf : any.mem.wf = true)
    (ht : launchState any y l = some t) : t.Inv := by
  obtain ⟨-, rfl⟩ := (launchState_eq_some any t y l).1 ht
  exact ⟨State.wf_placeRegions _ hwf, by simp [launchRegisters], by simp [launchRegisters]⟩

/-! ### Push and pop -/

/-- An instruction that only pushes a word stores it below `SP` and moves `SP` there (R35). -/
theorem storesWord_of_exec_push {i : Instr} {s : State} {v w : Word} (h : exec i s = .next (s.push v)) (hv : v = w) :
    StoresWord i s { s with sp := s.sp - 2 } (s.sp - 2) w := by
  subst hv
  have hnext : s.sp - 2 + 1 = s.sp - 1 := by bv_omega
  refine ⟨_, h, by simp only [State.push, State.writeByte, State.setSp], fun x => ?_⟩
  rw [State.readByte_push, hnext, loByte_eq_setWidth, hiByte_eq_setWidth]

end Sys2Proof.Machine

namespace Sys2Proof.Proofs.Scope

open Sys2Proof.Machine Sys2Proof.Claims

/-- Settles O13: `terminate`, the signal, the trap cycle and the instruction cycle each keep the invariant. -/
theorem stepKeepsInv : Obligations.StepKeepsInv :=
  fun _ _ h ht => h.boundary ht

/-- Settles O16: every instruction has a next state, and those that reach the control part touch none of these fields. -/
theorem everyInstructionCompletes : Obligations.EveryInstructionCompletes := by
  intro i s
  obtain ⟨t, h⟩ := exists_exec_eq_next i s
  exact ⟨t, h, untouched_of_exec h⟩

/-- Settles O18, by the instructions that reach the control part of the state. -/
theorem controlRegisterWriters : Obligations.ControlRegisterWriters := by
  intro i s t h
  cases (execFrame_of_exec h).control with
  | kept hc =>
    simp only [State.control, State.mk.injEq] at hc
    simp [hc]
  | _ => simp

/-- Settles O19, by the instructions that reach the control part of the state. -/
theorem shadowSetOnlySwaps : Obligations.ShadowSetOnlySwaps := by
  intro i s t h
  cases (execFrame_of_exec h).control with
  | kept hc =>
    simp only [State.control, State.mk.injEq] at hc
    simp [hc]
  | _ => simp

/-- Settles O20: an instruction that R35 does not list leaves `SP`. -/
theorem stackPointerWriters : Obligations.StackPointerWriters := by
  intro i s t h hnot
  simpa [hnot] using (execFrame_of_exec h).sp

/-- Settles O21: `LATCH` afterwards is the address of the operand that the encoding names, computed before the instruction. -/
theorem latchIsTheIndexedAddress : Obligations.LatchIsTheIndexedAddress := by
  intro i s t h
  rw [(execFrame_of_exec h).latch]
  cases indexedBy i with
  | none => rfl
  | some indexed => exact s.ea_eq_ofInt indexed.1 indexed.2

/-- Settles O14: the reset state by evaluation, the launch states by the registers the launch sets. -/
theorem launchMeetsInv : Obligations.LaunchMeetsInv :=
  ⟨by decide, fun _ _ _ _ => inv_of_launchState⟩

/-- Settles O32: all three pushes are the one operation `State.push`. -/
theorem pushStoresBelowSp : Obligations.PushStoresBelowSp := by
  intro s qq xy
  refine ⟨⟨by cases qq <;> rfl, ?_⟩, ⟨by cases xy <;> rfl, ?_⟩, Flags.getLsbD_toByte s.f⟩
  · cases qq <;> exact storesWord_of_exec_push rfl (joinBytes_eq_word _ _)
  · cases xy <;> exact storesWord_of_exec_push rfl rfl

/-- Settles O33, pair by pair. -/
theorem popLoadsFromSp : Obligations.PopLoadsFromSp := by
  intro s qq xy
  refine ⟨⟨by cases qq <;> rfl, ?_⟩, by cases xy <;> rfl, ?_⟩
  · cases qq <;> exact congrArg Host.Outcome.next (by simp [State.setStackPair, State.readWord, State.popped, State.setSp, Flags.ofByte])
  · rw [← joinBytes_eq_word]
    cases xy <;> rfl

end Sys2Proof.Proofs.Scope

/-! PROOFS. The memory (family 20_memory.md): the latest store decides a byte, and an instruction outside the list of storing ones leaves
the memory list itself. -/

namespace Sys2Proof.Machine

open Sys2Proof.Claims

/-- On a canonical list a store leaves no trace of an earlier one to the same address (R72). -/
theorem Memory.set_set {m : Memory} {a : Nat} (w v : Byte) (ha : a < 65536) (h : m.wf = true) : (m.set a w).set a v = m.set a v := by
  refine Memory.eq_of_get_eq (Memory.wf_set v ha (Memory.wf_set w ha h)) (Memory.wf_set v ha h) fun b _ => ?_
  simp only [Memory.get_set]
  split <;> rfl

/-- An instruction that stores nothing keeps the memory list as it is (R72, R82). The storing constructors contradict the premise. Of the
others, those that call a shared operation or choose between two states are settled through it; the rest update registers alone. -/
theorem mem_of_exec_of_not_storesMemory {i : Instr} {s t : State} (h : exec i s = .next t) (hstores : storesMemory i = false) :
    t.mem = s.mem := by
  cases i <;> cases hstores <;> (injection h with h; subst h)
  case ldRR | ldRN | ldRAtHl | inRAtC => simp
  case ldPP | ldIxhN | ldIyhN => simp
  case ldDdNn | ldDdAtNn | popQq | incSs | decSs => simp
  case ldRAtIx | ldRAtIy => simp [loadIndexed_eq]
  case incR | incIxh | incIyh => simp [incOperand_eq]
  case decR | decIxh | decIyh => simp [decOperand_eq]
  case rlcR | rrcR | rlR | rrR | slaR | sraR | sllR | srlR => simp [rotate_eq]
  case setBR | resBR => simp [modifyBit_eq]
  case cpir | cpdr => simp [repeatBlock_eq, blockCompare_eq]
  case otir | otdr => simp [repeatBlock_eq, blockOut_eq]
  case djnzE => simp [decrementAndJump_eq]
  case halt => simp [haltAt_eq]
  case jpCcNn | jrCcE | retCc => split <;> simp
  all_goals rfl

end Sys2Proof.Machine

namespace Sys2Proof.Proofs.Scope

open Sys2Proof.Machine

/-- Settles O22: the memory list is unchanged, so every byte of it is. -/
theorem onlyStoringInstructionsChangeMemory : Obligations.OnlyStoringInstructionsChangeMemory :=
  fun _ _ _ h hstores => State.readByte_of_mem (mem_of_exec_of_not_storesMemory h hstores)

/-- Settles O23, by the laws of the memory list. -/
theorem readAfterWrite : Obligations.ReadAfterWrite :=
  fun s a x v w =>
    ⟨s.readByte_writeByte a x v, fun hwf => ⟨Memory.wf_set_word a v hwf, Memory.set_set w v a.isLt hwf⟩⟩

end Sys2Proof.Proofs.Scope

/-! PROOFS. The encoding (family 30_encoding.md): an element and its bytes determine each other in every plane; from there the decoder over
byte strings, and the cycle that reads the same elements from memory. -/

namespace Sys2Proof

open Sys2Proof.Machine Sys2Proof.Claims

/-! ### The rows of a plane (R106) -/

/-- Every byte is the opcode of its own fields: the rows of a plane, one by one, are the values of the fields. -/
theorem opcode_cases {motive : Byte → Prop} (row : ∀ x y z : Nat, x < 4 → y < 8 → z < 8 → motive (opc x y z)) (op : Byte) :
    motive op := by
  have hop : opc (fieldX op) (fieldY op) (fieldZ op) = op := by
    apply BitVec.eq_of_toNat_eq
    simp only [opc, fieldX, fieldY, fieldZ, BitVec.toNat_ofNat]
    omega
  rw [← hop]
  exact row _ _ _ (by unfold fieldX; omega) (by unfold fieldY; omega) (by unfold fieldZ; omega)

/-- The rows R124 leaves unassigned are the `ED` no-operations (R337). -/
theorem readEd_of_edUnassigned {op : Byte} (h : edUnassigned op = true) (n n2 : Byte) : readEd op n n2 = ⟨.nopEd op, 1⟩ := by
  have hrow : readEd op n n2 = if edUnassigned op then ⟨.nopEd op, 1⟩ else readEd op n n2 := by
    clear h
    cases op using opcode_cases with | row x y z hx hy hz =>
    interval_cases x <;> interval_cases y <;> interval_cases z <;> rfl
  rw [hrow, if_pos h]

/-! ### From the instruction to its bytes and back (R123 to R127) -/

/-- Reading the bytes of `i` gives `i` back, whatever stands behind them. -/
inductive ReadsBack (read : Byte → Byte → Byte → Elem) (i : Instr) : List Byte → Prop
  | one {b0 : Byte} (h : ∀ b1 b2, read b0 b1 b2 = ⟨i, 1⟩) : ReadsBack read i [b0]
  | two {b0 b1 : Byte} (h : ∀ b2, read b0 b1 b2 = ⟨i, 2⟩) : ReadsBack read i [b0, b1]
  | three {b0 b1 b2 : Byte} (h : read b0 b1 b2 = ⟨i, 3⟩) : ReadsBack read i [b0, b1, b2]

/-- An opcode with a 16-bit immediate, its low byte first (R117). -/
theorem ReadsBack.word {read : Byte → Byte → Byte → Elem} {f : Word → Instr} {b0 : Byte} {nn : Word}
    (h : ∀ lo hi, read b0 lo hi = ⟨f (joinBytes hi lo), 3⟩) : ReadsBack read (f nn) [b0, loByte nn, hiByte nn] :=
  .three (by rw [h, joinBytes_hi_lo])

/-- Constructor by constructor: an opcode with its fields written out is one row of the reading table. -/
theorem readsBack_encodeElem {i : Instr} (hw : i.wellFormed = true) : ReadsBack (readElem i.plane) i (encodeElem i) := by
  cases i
  case nopEd => exact .one fun _ _ => readEd_of_edUnassigned hw _ _
  -- a bit number, a register, a pair or a condition is a code: one row for each
  case neg y | rstP y | bitBAtHl y | setBAtHl y | resBAtHl y => fin_cases y <;> exact .one fun _ _ => rfl
  case retn y | im0 y | im1 y | im2 y => fin_cases y <;> cases hw <;> exact .one fun _ _ => rfl
  case bitBR b r | setBR b r | resBR b r => fin_cases b <;> cases r <;> exact .one fun _ _ => rfl
  case bitBAtIx b _ z | bitBAtIy b _ z => fin_cases b <;> fin_cases z <;> exact .two fun _ => rfl
  case setBAtIx b _ | setBAtIy b _ | resBAtIx b _ | resBAtIy b _ => fin_cases b <;> exact .two fun _ => rfl
  case setBAtIxR b _ r | setBAtIyR b _ r | resBAtIxR b _ r | resBAtIyR b _ r =>
    fin_cases b <;> cases r <;> exact .two fun _ => rfl
  case ldRR r q => cases r <;> cases q <;> exact .one fun _ _ => rfl
  case ldPP xy r q => cases xy <;> cases r <;> cases q <;> exact .one fun _ _ => rfl
  case ldRAtHl r | ldAtHlR r | incR r | decR r | inRAtC r | outAtCR r | addAR r | adcAR r | subR r | sbcAR r | andR r | xorR r
      | orR r | cpR r | rlcR r | rrcR r | rlR r | rrR r | slaR r | sraR r | sllR r | srlR r =>
    cases r <;> exact .one fun _ _ => rfl
  case ldRN r _ | ldRAtIx r _ | ldRAtIy r _ | ldAtIxR _ r | ldAtIyR _ r | rlcAtIxR _ r | rlcAtIyR _ r | rrcAtIxR _ r
      | rrcAtIyR _ r | rlAtIxR _ r | rlAtIyR _ r | rrAtIxR _ r | rrAtIyR _ r | slaAtIxR _ r | slaAtIyR _ r | sraAtIxR _ r
      | sraAtIyR _ r | sllAtIxR _ r | sllAtIyR _ r | srlAtIxR _ r | srlAtIyR _ r =>
    cases r <;> exact .two fun _ => rfl
  case addAIxh k | addAIyh k | adcAIxh k | adcAIyh k | subIxh k | subIyh k | sbcAIxh k | sbcAIyh k | andIxh k | andIyh k
      | xorIxh k | xorIyh k | orIxh k | orIyh k | cpIxh k | cpIyh k | incIxh k | incIyh k | decIxh k | decIyh k =>
    cases k <;> exact .one fun _ _ => rfl
  case ldIxhN k _ | ldIyhN k _ => cases k <;> exact .two fun _ => rfl
  case pushQq q | popQq q | incSs q | decSs q | addHlSs q | addIxPp q | addIyPp q | adcHlSs q | sbcHlSs q =>
    cases q <;> exact .one fun _ _ => rfl
  case ldDdNn q _ | ldDdAtNn q _ => cases q <;> exact .word fun _ _ => rfl
  case ldAtNnDd q => cases q <;> exact .word (f := (.ldAtNnDd · _)) fun _ _ => rfl
  case jpCcNn cc _ | callCcNn cc _ => cases cc <;> exact .word fun _ _ => rfl
  case retCc cc => cases cc <;> exact .one fun _ _ => rfl
  case jrCcE cc _ => cases cc <;> exact .two fun _ => rfl
  -- no operand, or operand bytes alone
  case ldAAtNn | ldAtNnA | ldIxNn | ldIyNn | ldHlAtNn | ldIxAtNn | ldIyAtNn | ldAtNnHl | ldAtNnIx | ldAtNnIy | jpNn | callNn =>
    exact .word fun _ _ => rfl
  case ldAtIxN | ldAtIyN => exact .three rfl
  case ldAtHlN | addAN | adcAN | subN | sbcAN | andN | xorN | orN | cpN | addAAtIx | addAAtIy | adcAAtIx | adcAAtIy | subAtIx
      | subAtIy | sbcAAtIx | sbcAAtIy | andAtIx | andAtIy | xorAtIx | xorAtIy | orAtIx | orAtIy | cpAtIx | cpAtIy | incAtIx
      | incAtIy | decAtIx | decAtIy | rlcAtIx | rlcAtIy | rrcAtIx | rrcAtIy | rlAtIx | rlAtIy | rrAtIx | rrAtIy | slaAtIx
      | slaAtIy | sraAtIx | sraAtIy | sllAtIx | sllAtIy | srlAtIx | srlAtIy | jrE | djnzE | inAAtN | outAtNA =>
    exact .two fun _ => rfl
  all_goals exact .one fun _ _ => rfl

/-! ### From the bytes to the element and back (R120) -/

/-- The element is an instruction of plane `p` whose encoding is the bytes: an opcode with none, one or two operand bytes. -/
inductive Elem.SpelledBy (p : Plane) : Elem → Byte → Byte → Byte → Prop
  | one {i : Instr} {b0 b1 b2 : Byte} (hw : i.wellFormed = true) (hp : i.plane = p) (he : encodeElem i = [b0]) :
      SpelledBy p ⟨i, 1⟩ b0 b1 b2
  | two {i : Instr} {b0 b1 b2 : Byte} (hw : i.wellFormed = true) (hp : i.plane = p) (he : encodeElem i = [b0, b1]) :
      SpelledBy p ⟨i, 2⟩ b0 b1 b2
  | three {i : Instr} {b0 b1 b2 c1 c2 : Byte} (hw : i.wellFormed = true) (hp : i.plane = p) (he : encodeElem i = [b0, c1, c2])
      (h1 : c1 = b1) (h2 : c2 = b2) : SpelledBy p ⟨i, 3⟩ b0 b1 b2

/-- The plane behind an index byte (R102). -/
def Index.plane : Index → Plane
  | .ix => .dd
  | .iy => .fd

/-- The plane behind an index byte and `CB` (R126). -/
def Index.cbPlane : Index → Plane
  | .ix => .ddcb
  | .iy => .fdcb

theorem spelledBy_readBase (op n n2 : Byte) : (readBase op n n2).SpelledBy .base op n n2 := by
  cases op using opcode_cases with | row x y z hx hy hz =>
  interval_cases x <;> interval_cases y <;> interval_cases z <;> (constructor; rfl; rfl; rfl; all_goals simp)

theorem spelledBy_readEd (op n n2 : Byte) : (readEd op n n2).SpelledBy .ed op n n2 := by
  cases op using opcode_cases with | row x y z hx hy hz =>
  interval_cases x <;> interval_cases y <;> interval_cases z <;> (constructor; rfl; rfl; rfl; all_goals simp)

theorem spelledBy_readCb (op n n2 : Byte) : (readCb op).SpelledBy .cb op n n2 := by
  cases op using opcode_cases with | row x y z hx hy hz =>
  interval_cases x <;> interval_cases y <;> interval_cases z <;> (constructor <;> rfl)

/-- A byte that R127 does not list reads as a row of the base plane. -/
theorem spelledBy_readIndexed (xy : Index) (op n n2 : Byte) :
    (readIndexed xy op n n2).SpelledBy (if changedByIndex op then xy.plane else .base) op n n2 := by
  cases op using opcode_cases with | row x y z hx hy hz =>
  cases xy <;> interval_cases x <;> interval_cases y <;> interval_cases z <;> (constructor; rfl; rfl; rfl; all_goals simp)

theorem spelledBy_readIndexedCb (xy : Index) (d op n : Byte) :
    (readIndexedCb xy d op).SpelledBy xy.cbPlane d op n := by
  cases op using opcode_cases with | row x y z hx hy hz =>
  cases xy <;> interval_cases x <;> interval_cases y <;> interval_cases z <;> (constructor <;> rfl)

/-- The plane whose row a byte selects: behind `DD` or `FD` the base plane's, unless R127 lists the byte. -/
def Plane.rowOf (p : Plane) (op : Byte) : Plane :=
  match p with
  | .dd => if changedByIndex op then .dd else .base
  | .fd => if changedByIndex op then .fd else .base
  | p => p

/-- Every three bytes are, in every plane, a well-formed element and its encoding (R120). -/
theorem spelledBy_readElem (p : Plane) (b0 b1 b2 : Byte) : (readElem p b0 b1 b2).SpelledBy (p.rowOf b0) b0 b1 b2 := by
  cases p with
  | base => exact spelledBy_readBase b0 b1 b2
  | ed => exact spelledBy_readEd b0 b1 b2
  | cb => exact spelledBy_readCb b0 b1 b2
  | dd => exact spelledBy_readIndexed .ix b0 b1 b2
  | fd => exact spelledBy_readIndexed .iy b0 b1 b2
  | ddcb => exact spelledBy_readIndexedCb .ix b0 b1 b2
  | fdcb => exact spelledBy_readIndexedCb .iy b0 b1 b2

namespace Elem.SpelledBy

variable {p : Plane} {e : Elem} {b0 b1 b2 : Byte}

theorem wellFormed (h : e.SpelledBy p b0 b1 b2) : e.instr.wellFormed = true := by
  cases h <;> assumption

theorem plane_eq (h : e.SpelledBy p b0 b1 b2) : e.instr.plane = p := by
  cases h <;> assumption

theorem len_bounds (h : e.SpelledBy p b0 b1 b2) : 1 ≤ e.len ∧ e.len ≤ 3 := by
  cases h <;> simp

theorem len_eq (h : e.SpelledBy p b0 b1 b2) : e.len = (encodeElem e.instr).length := by
  cases h <;> simp [*]

theorem encodeElem_eq (h : e.SpelledBy p b0 b1 b2) : encodeElem e.instr = [b0, b1, b2].take e.len := by
  cases h <;> simp [*]

/-- Only the element's own bytes matter. -/
theorem of_take_eq {c0 c1 c2 : Byte} (h : e.SpelledBy p b0 b1 b2) (hc : [c0, c1, c2].take e.len = [b0, b1, b2].take e.len) :
    e.SpelledBy p c0 c1 c2 := by
  cases h with
  | one hw hp he => exact .one hw hp (by simpa [he] using hc.symm)
  | two hw hp he => exact .two hw hp (by simpa [he] using hc.symm)
  | three hw hp he h1 h2 =>
    obtain ⟨rfl, rfl, rfl⟩ : c0 = b0 ∧ c1 = b1 ∧ c2 = b2 := by simpa using hc
    exact .three hw hp he h1 h2

/-- Reading the bytes that spell an element, in its own plane, gives it: the two directions meet here. -/
theorem readElem_eq (h : e.SpelledBy p b0 b1 b2) : readElem p b0 b1 b2 = e := by
  cases h with
  | one hw hp he | two hw hp he | three hw hp he h1 h2 =>
    have hread := readsBack_encodeElem hw
    rw [he, hp] at hread
    subst_vars
    cases hread
    simp [*]

end Elem.SpelledBy

/-- A byte that R127 does not list as changed reads as in the base plane. -/
theorem readElem_rowOf (p : Plane) (b0 b1 b2 : Byte) : readElem (p.rowOf b0) b0 b1 b2 = readElem p b0 b1 b2 :=
  (spelledBy_readElem p b0 b1 b2).readElem_eq

/-- An element depends on its own bytes alone. -/
theorem readElem_eq_of_take_eq {p : Plane} {b0 b1 b2 c0 c1 c2 : Byte}
    (hc : [c0, c1, c2].take (readElem p b0 b1 b2).len = [b0, b1, b2].take (readElem p b0 b1 b2).len) :
    readElem p c0 c1 c2 = readElem p b0 b1 b2 := by
  have h := spelledBy_readElem p b0 b1 b2
  have h0 : c0 = b0 := by
    obtain ⟨k, hk⟩ := Nat.exists_eq_add_of_le' h.len_bounds.1
    rw [hk] at hc
    exact List.head_eq_of_cons_eq hc
  subst h0
  rw [← readElem_rowOf]
  exact (h.of_take_eq hc).readElem_eq

/-! ### The plane-selecting bytes (R102, R104, R124, R126) -/

/-- The planes in which a byte `DD` or `FD` selects a plane (R102). -/
def Plane.takesIndex : Plane → Bool
  | .base | .dd | .fd => true
  | _ => false

theorem Index.takesIndex_plane (xy : Index) : xy.plane.takesIndex = true := by cases xy <;> rfl

theorem exists_eq_lead_iff {b : Byte} : (∃ xy, b = lead xy) ↔ b = 0xDD ∨ b = 0xFD :=
  ⟨fun ⟨xy, h⟩ => by cases xy <;> simp [h, lead], fun h => h.elim (⟨.ix, ·⟩) (⟨.iy, ·⟩)⟩

/-- In plane `p` the byte `b` is an element of its own, an M1 fetch, and the next byte is looked up in plane `q`. -/
def Selects (p : Plane) (b : Byte) (q : Plane) : Prop :=
  p.isM1 = true ∧ ∃ i : Instr, i.isPrefix = true ∧ i.nextPlane = q ∧ ∀ b1 b2, readElem p b b1 b2 = ⟨i, 1⟩

/-- An index byte selects its plane whatever index byte stands before it (R102). -/
theorem selects_lead {p : Plane} (hp : p.takesIndex = true) (xy : Index) : Selects p (lead xy) xy.plane := by
  cases p <;> cases hp <;> cases xy <;> exact ⟨rfl, _, rfl, rfl, fun _ _ => rfl⟩

/-- `ED` discards the index bytes before it (R124). -/
theorem selects_ed {p : Plane} (hp : p.takesIndex = true) : Selects p 0xED .ed := by
  cases p <;> cases hp <;> exact ⟨rfl, _, rfl, rfl, fun _ _ => rfl⟩

theorem encodeElem_length_of_isPrefix {i : Instr} (h : i.isPrefix = true) : (encodeElem i).length = 1 := by
  cases i <;> cases h <;> rfl

theorem encodeElem_ne_nil (i : Instr) : encodeElem i ≠ [] := by
  cases i <;> exact List.cons_ne_nil _ _

/-! ### Byte strings (R101) -/

/-- A plane-selecting byte with more bytes behind it. -/
theorem decodeFrom_cons_of_selects {p q : Plane} {b : Byte} (h : Selects p b q) (m1 : Nat) {bs : List Byte} (hbs : bs ≠ []) :
    decodeFrom p (b :: bs).length m1 (b :: bs) = decodeFrom q bs.length (m1 + 1) bs := by
  obtain ⟨hm1, i, hi, rfl, hread⟩ := h
  cases bs with
  | nil => exact absurd rfl hbs
  | cons c cs => simp [decodeFrom, hread, hi, hm1]

/-- The bytes that lead to a plane, each counted once (R103, R104). -/
theorem decode_lead_append (p : Plane) {bs : List Byte} (hbs : bs ≠ []) :
    decode (p.lead ++ bs) = decodeFrom p bs.length p.lead.length bs := by
  have hcons : (0xCB : Byte) :: bs ≠ [] := List.cons_ne_nil _ _
  cases p with
  | base => rfl
  | ed => exact decodeFrom_cons_of_selects (selects_ed rfl) 0 hbs
  | cb => exact decodeFrom_cons_of_selects ⟨rfl, .prefixCb, rfl, rfl, fun _ _ => rfl⟩ 0 hbs
  | dd => exact decodeFrom_cons_of_selects (selects_lead rfl .ix) 0 hbs
  | fd => exact decodeFrom_cons_of_selects (selects_lead rfl .iy) 0 hbs
  | ddcb =>
    exact (decodeFrom_cons_of_selects (selects_lead rfl .ix) 0 hcons).trans
      (decodeFrom_cons_of_selects ⟨rfl, .prefixDdCb, rfl, rfl, fun _ _ => rfl⟩ 1 hbs)
  | fdcb =>
    exact (decodeFrom_cons_of_selects (selects_lead rfl .iy) 0 hcons).trans
      (decodeFrom_cons_of_selects ⟨rfl, .prefixFdCb, rfl, rfl, fun _ _ => rfl⟩ 1 hbs)

/-- The bytes of one element, read in its plane, are that element. -/
theorem decodeFrom_encodeElem {i : Instr} (hw : i.wellFormed = true) (m1 : Nat) :
    decodeFrom i.plane (encodeElem i).length m1 (encodeElem i) = .ok ⟨i, if i.plane.isM1 then m1 + 1 else m1, []⟩ := by
  have hlen := encodeElem_length_of_isPrefix (i := i)
  have hread := readsBack_encodeElem hw
  generalize encodeElem i = bs at hlen hread
  cases hread with
  | one h | two h | three h => simp_all [decodeFrom]

/-- A byte string reads alike in the plane of its first byte's row (R127). -/
theorem decodeFrom_rowOf (p : Plane) (need m1 : Nat) (b : Byte) (bs : List Byte) :
    decodeFrom (p.rowOf b) need m1 (b :: bs) = decodeFrom p need m1 (b :: bs) := by
  have hm1 : (p.rowOf b).isM1 = p.isM1 := by
    cases p <;> unfold Plane.rowOf <;> dsimp only <;> split <;> rfl
  simp only [decodeFrom, readElem_rowOf, hm1]

/-- `k` M1 fetches before the bytes that were decoded. -/
def Decoded.countBefore (k : Nat) (d : Decoded) : Decoded := { d with m1 := d.m1 + k }

/-- The M1 fetches before are counted in, and change nothing else. -/
theorem decodeFrom_add (p : Plane) (need m1 k : Nat) (bs : List Byte) :
    decodeFrom p need (m1 + k) bs = (decodeFrom p need m1 bs).map (·.countBefore k) := by
  induction bs generalizing p need m1 with
  | nil => rfl
  | cons b bs ih =>
    have hcount : (if p.isM1 then m1 + k + 1 else m1 + k) = (if p.isM1 then m1 + 1 else m1) + k := by
      split <;> omega
    simp only [decodeFrom, hcount, ih]
    split
    · rfl
    · split <;> rfl

/-- A run of index bytes before one more: each costs its fetch, the last decides (R102). -/
theorem decodeFrom_index_run {ps : List Byte} (hps : ∀ b ∈ ps, ∃ xy, b = lead xy) (xy : Index) {bs : List Byte} (hbs : bs ≠ [])
    {p : Plane} (hp : p.takesIndex = true) (m1 : Nat) :
    decodeFrom p (ps ++ lead xy :: bs).length m1 (ps ++ lead xy :: bs) =
      decodeFrom xy.plane bs.length (m1 + 1 + ps.length) bs := by
  induction ps generalizing p m1 with
  | nil => exact decodeFrom_cons_of_selects (selects_lead hp xy) m1 hbs
  | cons b ps ih =>
    obtain ⟨⟨zw, rfl⟩, htail⟩ := List.forall_mem_cons.1 hps
    calc decodeFrom p (lead zw :: (ps ++ lead xy :: bs)).length m1 (lead zw :: (ps ++ lead xy :: bs))
      _ = decodeFrom zw.plane (ps ++ lead xy :: bs).length (m1 + 1) (ps ++ lead xy :: bs) :=
        decodeFrom_cons_of_selects (selects_lead hp zw) m1 (by simp)
      _ = decodeFrom xy.plane bs.length (m1 + 1 + (lead zw :: ps).length) bs := by
        rw [ih htail zw.takesIndex_plane, List.length_cons, Nat.add_right_comm _ 1, Nat.add_assoc _ _ 1]

/-- One index byte before an instruction. -/
theorem decode_lead_cons (xy : Index) {bs : List Byte} (hbs : bs ≠ []) : decode (lead xy :: bs) = decodeFrom xy.plane bs.length 1 bs :=
  decodeFrom_cons_of_selects (selects_lead rfl xy) 0 hbs

/-- An index byte before an opcode that R127 does not list costs its fetch alone. -/
theorem decode_lead_encode_of_base {i : Instr} (xy : Index) (hw : i.wellFormed = true) (hp : i.plane = .base)
    (hsame : ∀ b ∈ (encode i).head?, changedByIndex b = false) : decode (lead xy :: encode i) = .ok ⟨i, 2, []⟩ := by
  have hbytes : encode i = encodeElem i := by simp [encode, hp, Plane.lead]
  have hread := decodeFrom_encodeElem hw 1
  rw [hp] at hread
  rw [hbytes] at hsame ⊢
  refine (decode_lead_cons xy (encodeElem_ne_nil i)).trans (Eq.trans ?_ hread)
  generalize encodeElem i = bs at hsame
  cases bs with
  | nil => rfl
  | cons b bs =>
    have hrow : xy.plane.rowOf b = .base := by cases xy <;> simp [Index.plane, Plane.rowOf, hsame b rfl]
    rw [← decodeFrom_rowOf, hrow]

/-- An index byte before an instruction of the `ED` plane costs its fetch alone (R124). -/
theorem decode_lead_encode_of_ed {i : Instr} (xy : Index) (hw : i.wellFormed = true) (hp : i.plane = .ed) :
    decode (lead xy :: encode i) = .ok ⟨i, 3, []⟩ := by
  have hbytes : encode i = 0xED :: encodeElem i := by simp [encode, hp, Plane.lead]
  have hread := decodeFrom_encodeElem hw 2
  rw [hp] at hread
  rw [hbytes, decode_lead_cons xy (List.cons_ne_nil _ _),
    decodeFrom_cons_of_selects (selects_ed xy.takesIndex_plane) 1 (encodeElem_ne_nil i), hread]
  rfl

theorem decode_encode {i : Instr} (hw : i.wellFormed = true) : decode (encode i) = .ok ⟨i, if i.plane = .base then 1 else 2, []⟩ := by
  rw [encode, decode_lead_append _ (encodeElem_ne_nil i), decodeFrom_encodeElem hw]
  cases i.plane <;> rfl

/-! ### Which elements select a plane -/

theorem Instr.takesIndex_plane_of_isPrefix {i : Instr} (h : i.isPrefix = true) : i.plane.takesIndex = true := by
  cases i <;> cases h <;> rfl

/-- An element that goes on to a plane where index bytes count is an index byte. -/
theorem encodeElem_mem_of_takesIndex_nextPlane {i : Instr} (h : i.isPrefix = true) (hnext : i.nextPlane.takesIndex = true) :
    encodeElem i ∈ [[0xDD], [0xFD]] := by
  cases i <;> cases h <;> cases hnext <;> decide

/-- Behind `CB`, `ED`, `DD CB` and `FD CB` every element is an instruction. -/
theorem isPrefix_readElem_of_not_takesIndex {p : Plane} (hp : p.takesIndex = false) (b0 b1 b2 : Byte) :
    (readElem p b0 b1 b2).instr.isPrefix = false := by
  have hrow : p.rowOf b0 = p := by cases p <;> cases hp <;> rfl
  have hplane := (spelledBy_readElem p b0 b1 b2).plane_eq
  by_contra hprefix
  have htakes := Instr.takesIndex_plane_of_isPrefix (Bool.eq_true_of_not_eq_false hprefix)
  rw [hplane, hrow, hp] at htakes
  exact Bool.false_ne_true htakes

/-- A byte that goes on to a plane where index bytes count is one itself. -/
theorem eq_lead_of_takesIndex_nextPlane {p : Plane} {b0 b1 b2 : Byte} (h : (readElem p b0 b1 b2).instr.isPrefix = true)
    (hnext : (readElem p b0 b1 b2).instr.nextPlane.takesIndex = true) : b0 = 0xDD ∨ b0 = 0xFD := by
  have hbytes := encodeElem_mem_of_takesIndex_nextPlane h hnext
  have hspelled := spelledBy_readElem p b0 b1 b2
  obtain ⟨k, hk⟩ := Nat.exists_eq_add_of_le' hspelled.len_bounds.1
  rw [hspelled.encodeElem_eq, hk] at hbytes
  simp only [List.take_succ_cons, List.mem_cons, List.cons.injEq, List.not_mem_nil, or_false] at hbytes
  exact hbytes.imp And.left And.left

/-- The M1 fetches of one element in a plane (R44, R103). -/
def Plane.m1Fetches (p : Plane) : Nat := if p.isM1 then 1 else 0

theorem Plane.ite_isM1 (p : Plane) (m1 : Nat) : (if p.isM1 then m1 + 1 else m1) = m1 + p.m1Fetches := by
  unfold Plane.m1Fetches
  split <;> rfl

end Sys2Proof

namespace Sys2Proof.Machine

open Sys2Proof.Claims

/-- `LD p,p'` of two plain registers is `LD r,r'`, bytes and effect (R165). -/
theorem encode_ldPP_of_plainReg (xy : Index) {p p' : IdxReg8} {r r' : Reg8} (hp : plainReg p = some r) (hp' : plainReg p' = some r') :
    encode (.ldPP xy p p') = lead xy :: encode (.ldRR r r') := by
  have hcode {q : IdxReg8} {t : Reg8} (h : plainReg q = some t) : q.code = t.code := by
    cases q <;> cases h <;> rfl
  have hbytes : encode (.ldPP xy p p') = [lead xy, opc 1 p.code p'.code] := by cases xy <;> rfl
  rw [hbytes, hcode hp, hcode hp']
  rfl

theorem exec_ldPP_of_plainReg (xy : Index) {p p' : IdxReg8} {r r' : Reg8} (hp : plainReg p = some r) (hp' : plainReg p' = some r')
    (s : State) : exec (.ldPP xy p p') s = exec (.ldRR r r') s := by
  cases p <;> cases hp <;> cases p' <;> cases hp' <;> rfl

/-! ### The cycle reads what the decoder reads (R101) -/

theorem step_of_terminate {s : State} (h : s.terminate = true) : step s = .next s := by
  simp [step, boundary, h]

theorem step_of_signal {s : State} (hterminate : s.terminate = false) (hsignal : s.signal = some 0) :
    step s = .next (deliverSignal s) := by
  simp [step, boundary, hterminate, hsignal]

/-- With `PC` in the magic page a step is a trap cycle (R561). -/
theorem step_of_magic {s : State} (hterminate : s.terminate = false) (hsignal : s.signal ≠ some 0)
    (hpc : Config.magicAddress ≤ s.pc) : step s = trapCycle s.tick := by
  simp [step, boundary, runCycle, hterminate, hsignal, State.tick, hpc]

/-- A step of a running state is an instruction cycle from the base plane. -/
theorem step_of_running {s : State} (h : s.running) : step s = instructionCycle cycleFuel (enterPlane .base s.tick) := by
  obtain ⟨hterminate, hsignal, hpc⟩ := h
  simp [step, boundary, runCycle, hterminate, hsignal, State.tick, enterPlane, BitVec.not_le.2 hpc]

/-- The element at `PC` is the one read from the bytes at `PC`, zeros behind them, if these hold all of it. -/
theorem fetchElem_eq_of_len_le {s : State} {n : Nat} {bs : List Byte} (hbs : bs = State.codeBytes { s with pc := s.pc + 1 } n)
    (hlen : (readElem s.plane (s.readByte s.pc) (bs.getD 0 0) (bs.getD 1 0)).len ≤ n + 1) :
    fetchElem s = readElem s.plane (s.readByte s.pc) (bs.getD 0 0) (bs.getD 1 0) := by
  have hbounds := (spelledBy_readElem s.plane (s.readByte s.pc) (bs.getD 0 0) (bs.getD 1 0)).len_bounds
  refine readElem_eq_of_take_eq ?_
  generalize (readElem s.plane _ _ _).len = len at hlen hbounds
  subst hbs
  match n, len with
  | _, 1 => rfl
  | n + 1, 2 => rfl
  | n + 2, 3 => simp [State.codeBytes, State.readByte]

theorem incRBy_add (j k : Nat) (r : Byte) : incRBy (j + k) r = incRBy k (incRBy j r) := by
  induction j generalizing r with
  | zero => rw [Nat.zero_add]; rfl
  | succ j ih => rw [Nat.add_right_comm]; exact ih (incR r)

/-- The state an instruction of `n` bytes, `k` of them M1 fetches, runs in: `PC = PCn`, `R` counted, no plane choice left (R101). -/
def State.fetched (s : State) (n k : Nat) : State :=
  { s with pc := s.pc + BitVec.ofNat 16 n, r := incRBy k s.r, plane := .base }

theorem State.advance_eq_fetched (s : State) (e : Elem) : s.advance e = s.fetched e.len s.plane.m1Fetches := by
  unfold State.advance State.fetched Plane.m1Fetches
  split <;> rfl

theorem State.fetched_enterPlane_fetched (s : State) (p : Plane) (n n' k k' : Nat) :
    (enterPlane p (s.fetched n k)).fetched n' k' = s.fetched (n + n') (k + k') := by
  simp [State.fetched, enterPlane, BitVec.ofNat_add, BitVec.add_assoc, incRBy_add]

/-- A cycle over bytes that decode to one instruction runs it, all of them fetched. -/
theorem instructionCycle_of_decodeFrom {n m m1 fuel : Nat} {s : State} {i : Instr} (hfuel : n ≤ fuel)
    (hdecode : decodeFrom s.plane n m (s.codeBytes n) = .ok ⟨i, m1, []⟩) (hi : i.isPrefix = false) :
    ∃ k, m1 = m + k ∧ instructionCycle fuel s = exec i (s.fetched n k) := by
  induction n generalizing s m fuel with
  | zero => cases hdecode
  | succ n ih =>
    obtain ⟨fuel, rfl⟩ := Nat.exists_eq_add_of_le' (Nat.le_trans (Nat.le_add_left 1 n) hfuel)
    -- what the decoder reads first is what the cycle fetches
    generalize hbs : State.codeBytes { s with pc := s.pc + 1 } n = bs
    have hlength : bs.length = n := by rw [← hbs, State.length_codeBytes]
    have hspelled := spelledBy_readElem s.plane (s.readByte s.pc) (bs.getD 0 0) (bs.getD 1 0)
    have hfetch := fetchElem_eq_of_len_le hbs.symm
    rw [State.codeBytes, hbs] at hdecode
    simp only [decodeFrom, hlength, s.plane.ite_isM1] at hdecode
    generalize readElem s.plane (s.readByte s.pc) (bs.getD 0 0) (bs.getD 1 0) = e at hdecode hspelled hfetch
    split at hdecode
    next hselects =>
      have hprefix := (Bool.and_eq_true_iff.1 hselects).1
      have hlen : e.len = 1 := by rw [hspelled.len_eq, encodeElem_length_of_isPrefix hprefix]
      have hfetch := hfetch (by omega)
      rw [instructionCycle_of_isPrefix fuel s (by rw [hfetch]; exact hprefix), hfetch, State.advance_eq_fetched, hlen]
      have hbytes : (enterPlane e.instr.nextPlane (s.fetched 1 s.plane.m1Fetches)).codeBytes n = bs := by
        rw [← hbs]
        exact State.codeBytes_congr (by rfl) (by rfl) n
      obtain ⟨k, rfl, hrun⟩ := ih (m := m + s.plane.m1Fetches) (Nat.le_of_succ_le_succ hfuel) (by rw [hbytes]; exact hdecode)
      refine ⟨s.plane.m1Fetches + k, Nat.add_assoc .., hrun.trans ?_⟩
      rw [State.fetched_enterPlane_fetched, Nat.add_comm 1]
    next hlast =>
      split at hdecode
      next hlen =>
        simp only [Except.ok.injEq, Decoded.mk.injEq, List.drop_eq_nil_iff] at hdecode
        obtain ⟨rfl, rfl, hall⟩ := hdecode
        have hfetch := hfetch hlen
        have hlen : e.len = n + 1 := by have := hspelled.len_bounds.1; omega
        refine ⟨_, rfl, ?_⟩
        rw [instructionCycle_of_not_isPrefix fuel s (by rw [hfetch]; exact hi), hfetch, State.advance_eq_fetched, hlen]
      next => cases hdecode

theorem incR_toNat (r : Byte) : (incR r).toNat = 128 * (r.toNat / 128) + (r.toNat % 128 + 1) % 128 := by
  revert r
  decide

theorem incRBy_toNat (k : Nat) (r : Byte) : (incRBy k r).toNat = 128 * (r.toNat / 128) + (r.toNat % 128 + k) % 128 := by
  induction k generalizing r with
  | zero => rw [incRBy]; omega
  | succ k ih =>
    rw [incRBy, ih, incR_toNat]
    omega

/-! ### The cycle that does not end (R641) -/

/-- An index byte takes the cycle one byte on, in a plane where index bytes count (R102). -/
theorem exists_instructionCycle_succ_of_index {s : State} (hp : s.plane.takesIndex = true)
    (hindex : s.readByte s.pc = 0xDD ∨ s.readByte s.pc = 0xFD) :
    ∃ q : Plane, q.takesIndex = true ∧
      ∀ fuel, instructionCycle (fuel + 1) s = instructionCycle fuel (enterPlane q (s.fetched 1 s.plane.m1Fetches)) := by
  obtain ⟨xy, hxy⟩ := exists_eq_lead_iff.2 hindex
  obtain ⟨-, i, hi, hnext, hread⟩ := selects_lead hp xy
  have hfetch : fetchElem s = ⟨i, 1⟩ := by rw [fetchElem, hxy, hread]
  refine ⟨xy.plane, xy.takesIndex_plane, fun fuel => ?_⟩
  rw [instructionCycle_of_isPrefix fuel s (by rw [hfetch]; exact hi), hfetch, State.advance_eq_fetched, hnext, enterPlane]

theorem instructionCycle_of_all_index {s : State} (hp : s.plane.takesIndex = true)
    (hall : ∀ a, s.readByte a = 0xDD ∨ s.readByte a = 0xFD) (fuel : Nat) : instructionCycle fuel s = .fault .endlessPrefixes := by
  induction fuel generalizing s with
  | zero => rfl
  | succ fuel ih =>
    obtain ⟨q, hq, hnext⟩ := exists_instructionCycle_succ_of_index hp (hall s.pc)
    rw [hnext]
    exact ih hq hall

/-- Behind a byte other than `DD` and `FD` the cycle ends after one more element at most. -/
theorem exists_instructionCycle_of_not_index {s : State} (h : ¬(s.readByte s.pc = 0xDD ∨ s.readByte s.pc = 0xFD)) (fuel : Nat) :
    ∃ t, instructionCycle (fuel + 2) s = .next t := by
  cases hprefix : (fetchElem s).instr.isPrefix with
  | false =>
    rw [instructionCycle_of_not_isPrefix _ s hprefix]
    exact exists_exec_eq_next _ _
  | true =>
    have hplane : (fetchElem s).instr.nextPlane.takesIndex = false :=
      Bool.eq_false_iff.2 fun hnext => h (eq_lead_of_takesIndex_nextPlane hprefix hnext)
    rw [instructionCycle_of_isPrefix _ s hprefix, instructionCycle_of_not_isPrefix]
    · exact exists_exec_eq_next _ _
    · exact isPrefix_readElem_of_not_takesIndex hplane _ _ _

/-- A cycle with a byte other than `DD` and `FD` ahead ends. -/
theorem exists_instructionCycle_of_not_index_ahead {s : State} (hp : s.plane.takesIndex = true) {k fuel : Nat} (hfuel : k + 2 ≤ fuel)
    (hk : ¬(s.readByte (s.pc + BitVec.ofNat 16 k) = 0xDD ∨ s.readByte (s.pc + BitVec.ofNat 16 k) = 0xFD)) :
    ∃ t, instructionCycle fuel s = .next t := by
  induction k generalizing s fuel with
  | zero =>
    obtain ⟨fuel, rfl⟩ := Nat.exists_eq_add_of_le' hfuel
    exact exists_instructionCycle_of_not_index (by simpa using hk) fuel
  | succ k ih =>
    by_cases hindex : s.readByte s.pc = 0xDD ∨ s.readByte s.pc = 0xFD
    · obtain ⟨fuel, rfl⟩ := Nat.exists_eq_add_of_le' hfuel
      obtain ⟨q, hq, hnext⟩ := exists_instructionCycle_succ_of_index hp hindex
      have hbyte : s.pc + BitVec.ofNat 16 1 + BitVec.ofNat 16 k = s.pc + BitVec.ofNat 16 (k + 1) := by
        rw [BitVec.add_assoc, ← BitVec.ofNat_add, Nat.add_comm]
      rw [show fuel + (k + 1 + 2) = fuel + (k + 2) + 1 from rfl, hnext]
      exact ih hq (Nat.le_add_left _ _) (by rw [← hbyte] at hk; exact hk)
    · obtain ⟨fuel, rfl⟩ := Nat.exists_eq_add_of_le' (Nat.le_trans (Nat.le_add_left 2 (k + 1)) hfuel)
      exact exists_instructionCycle_of_not_index hindex fuel

/-- A cycle ends unless all of memory is `DD` or `FD` (R641). -/
theorem exists_instructionCycle_of_not_all_index {s : State} (hp : s.plane.takesIndex = true)
    (hall : ¬∀ a, s.readByte a = 0xDD ∨ s.readByte a = 0xFD) : ∃ t, instructionCycle cycleFuel s = .next t := by
  obtain ⟨a, ha⟩ := not_forall.1 hall
  have hk : (a - s.pc).toNat + 2 ≤ cycleFuel := by
    have := (a - s.pc).isLt
    unfold cycleFuel
    omega
  refine exists_instructionCycle_of_not_index_ahead hp hk ?_
  rwa [BitVec.ofNat_toNat, BitVec.setWidth_eq, BitVec.add_comm, BitVec.sub_add_cancel]

/-! ### Where a step stops (R641, R651) -/

theorem bdos_eq_blocked {s : State} {r : EnvResponse} (h : bdos s r = .blocked) : s.c.toNat = 1 ∨ s.c.toNat = 10 := by
  unfold bdos at h
  split at h
  case h_2 hc => exact .inl hc
  case h_11 hc => exact .inr hc
  case h_7 | h_33 | h_44 => split at h <;> cases h
  all_goals cases h

/-- A handler that does not return waits for console input (R651): BDOS 1, BDOS 10 or BIOS CONIN. -/
theorem handler_eq_blocked {offset : Nat} {s : State} {r : EnvResponse} (h : handler offset s r = .blocked) :
    offset = 0 ∧ (s.c.toNat = 1 ∨ s.c.toNat = 10) ∨ offset = 4 := by
  unfold handler at h
  split at h
  case h_1 => exact .inl ⟨rfl, bdos_eq_blocked h⟩
  case h_5 => exact .inr rfl
  all_goals cases h

/-- A trap cycle has a successor state or waits in such a handler. -/
theorem trapCycle_cases (s : State) :
    (∃ t, trapCycle s = .next t) ∨
      trapCycle s = .fault .handlerBlocked ∧ (s.pc = 0xFFED ∧ (s.c.toNat = 1 ∨ s.c.toNat = 10) ∨ s.pc = 0xFFF1) := by
  unfold trapCycle
  dsimp only
  split
  next => exact .inl ⟨_, rfl⟩
  next hblocked =>
    refine .inr ⟨rfl, (handler_eq_blocked hblocked).imp (And.imp_left fun h => ?_) fun h => ?_⟩
    all_goals
      unfold Config.magicAddress at h
      bv_omega

end Sys2Proof.Machine

namespace Sys2Proof.Proofs.Scope

open Sys2Proof.Machine Sys2Proof.Claims

/-- Settles O1: the lead bytes go to the plane, and there the element reads back. -/
theorem decodeOfEncode : Obligations.DecodeOfEncode :=
  fun _ => decode_encode

/-- Settles O2: every row of every plane is spelled by its bytes. -/
theorem encodeOfReadElement : Obligations.EncodeOfReadElement := by
  intro p b0 b1 b2
  have h := spelledBy_readElem p b0 b1 b2
  exact ⟨h.wellFormed, h.len_bounds.1, h.len_bounds.2, h.encodeElem_eq⟩

/-- Settles O5: the run of index bytes by induction, the opcodes without effect through the plane whose row they select. -/
theorem lastIndexPrefixDecides : Obligations.LastIndexPrefixDecides := by
  refine ⟨fun ps q bs hps hq hbs => ?_, fun i xy hw _ hp => decode_lead_encode_of_base xy hw hp,
    fun i xy hw hp => decode_lead_encode_of_ed xy hw hp, fun xy p p' r r' hp hp' => ⟨?_, exec_ldPP_of_plainReg xy hp hp'⟩⟩
  · obtain ⟨xy, rfl⟩ := exists_eq_lead_iff.2 hq
    rw [decode, decodeFrom_index_run (fun b hb => exists_eq_lead_iff.2 (hps b hb)) xy hbs rfl, decodeFrom_add, decode_lead_cons xy hbs]
    rfl
  · rw [← encode_ldPP_of_plainReg xy hp hp', decode_encode rfl]
    cases xy <;> rfl

/-- Settles O3: each word is the encoding of its instruction. -/
theorem wordsOfTheSpecDecode : Obligations.WordsOfTheSpecDecode := by
  have reads {i : Instr} (hw : i.wellFormed = true) : (decode (encode i)).map (·.instr) = .ok i := by rw [decode_encode hw]; rfl
  exact ⟨reads (i := .ldRR .a .b) rfl, reads (i := .ldRAtIx .h 0xFF) rfl, reads (i := .ldDdNn .de 0x010E) rfl,
    reads (i := .ldAtNnDd 0x0300 .sp) rfl, reads (i := .exAtSpIx) rfl, reads (i := .ldir) rfl, reads (i := .subIyh .lo) rfl,
    reads (i := .daa) rfl, reads (i := .sbcHlSs .de) rfl, reads (i := .srlAtIxR 0x02 .b) rfl, reads (i := .setBAtIy 7 0xFF) rfl,
    reads (i := .jrCcE .c 0x02) rfl, reads (i := .inRAtC .a) rfl, reads (i := .prefixFdAfterDd) rfl⟩

/-- Settles O4: the cycle runs what the decoder reads, and the counts of `R` add up. -/
theorem stepRunsDecodedInstruction : Obligations.StepRunsDecodedInstruction := by
  refine ⟨fun s n m1 i hrunning hn hdecode hi => ?_, incRBy_toNat⟩
  have hbytes : (enterPlane .base s.tick).codeBytes n = s.codeBytes n := State.codeBytes_congr (by rfl) (by rfl) n
  have hlength := s.length_codeBytes n
  obtain ⟨k, hk, hrun⟩ := instructionCycle_of_decodeFrom (s := enterPlane .base s.tick) (m := 0) hn
    (by rw [hbytes, ← hdecode, decode, hlength]; rfl) hi
  rw [step_of_running hrunning, hk, Nat.zero_add]
  exact hrun

/-- Settles O6: a byte other than `DD` and `FD` is at most 65 535 bytes ahead, within the fuel of a cycle. -/
theorem cycleEndsUnlessAllPrefixes : Obligations.CycleEndsUnlessAllPrefixes := by
  intro s hrunning
  rw [step_of_running hrunning]
  refine ⟨fun hfault => ?_, fun hall => instructionCycle_of_all_index (s := enterPlane .base s.tick) rfl hall _⟩
  by_contra hall
  obtain ⟨t, ht⟩ := exists_instructionCycle_of_not_all_index (s := enterPlane .base s.tick) rfl hall
  rw [hfault] at ht
  cases ht

/-- Settles O17: the branches of a step in their order, the trap and the instruction cycle by their own lemmas. -/
theorem stepStopsOnlyWhereStuck : Obligations.StepStopsOnlyWhereStuck := by
  intro s
  by_cases hterminate : s.terminate = true
  · exact .inl ⟨s, step_of_terminate hterminate⟩
  by_cases hsignal : s.signal = some 0
  · exact .inl ⟨_, step_of_signal (Bool.eq_false_of_not_eq_true hterminate) hsignal⟩
  have hterminate := Bool.eq_false_of_not_eq_true hterminate
  by_cases hpc : Config.magicAddress ≤ s.pc
  · rw [step_of_magic hterminate hsignal hpc]
    exact (trapCycle_cases s.tick).imp_right fun h => .inl ⟨h.1, hterminate, h.2⟩
  have hrunning : s.running := ⟨hterminate, hsignal, BitVec.not_le.1 hpc⟩
  rw [step_of_running hrunning]
  by_cases hall : ∀ a, s.readByte a = 0xDD ∨ s.readByte a = 0xFD
  · exact .inr (.inr ⟨instructionCycle_of_all_index (s := enterPlane .base s.tick) rfl hall _, hrunning, hall⟩)
  · exact .inl (exists_instructionCycle_of_not_all_index (s := enterPlane .base s.tick) rfl hall)

/-- Settles O8: the first two tests of a cycle boundary. -/
theorem terminationAndSignalComeFirst : Obligations.TerminationAndSignalComeFirst :=
  fun _ => ⟨step_of_terminate, step_of_signal⟩

/-- Settles O7, byte by byte: the meaning of each is the plane it selects. -/
theorem prefixBytesSelectPlanes : Obligations.PrefixBytesSelectPlanes := by
  intro i bytes p s h
  simp only [List.mem_cons, Prod.mk.injEq, List.not_mem_nil, or_false] at h
  rcases h with ⟨rfl, rfl, rfl⟩ | ⟨rfl, rfl, rfl⟩ | ⟨rfl, rfl, rfl⟩ | ⟨rfl, rfl, rfl⟩ | ⟨rfl, rfl, rfl⟩ | ⟨rfl, rfl, rfl⟩ |
    ⟨rfl, rfl, rfl⟩ | ⟨rfl, rfl, rfl⟩ | ⟨rfl, rfl, rfl⟩ | ⟨rfl, rfl, rfl⟩ | ⟨rfl, rfl, rfl⟩ | ⟨rfl, rfl, rfl⟩ <;>
    exact ⟨rfl, exec_of_isPrefix s rfl⟩

end Sys2Proof.Proofs.Scope

/-! PROOFS. The 8-bit loads (family 40_load8.md): registers, memory, index halves, and `I` and `R`. -/

namespace Sys2Proof

open Sys2Proof.Claims

/-- A 16-bit immediate as the encoder spells it (R117). -/
theorem imm16_eq (nn : Word) : imm16 nn = [loByte nn, hiByte nn] := by
  rw [imm16, loByte_eq_setWidth, hiByte_eq_setWidth]

end Sys2Proof

namespace Sys2Proof.Machine

open Sys2Proof.Claims

/-- An instruction that ends in one store: memory apart it leaves `u`, and of memory it stores that byte (R71, R72). -/
theorem storesByte_of_exec_writeByte {i : Instr} {s u : State} {a : Word} {v : Byte} (h : exec i s = .next (u.writeByte a v))
    (hmem : u.mem = s.mem) : StoresByte i s u a v := by
  refine ⟨_, h, ?_, fun x => ?_⟩
  · rw [← hmem]; rfl
  · rw [State.readByte_writeByte, State.readByte_of_mem hmem]

/-- A write to the high half leaves the low half as it was (R166). -/
theorem State.setHalf_hi_eq_word (s : State) (xy : Index) (v : Byte) :
    s.setHalf xy .hi v = s.setIndex xy (word v ((s.index xy).setWidth 8)) := by
  rw [State.setHalf, joinBytes_eq_word, loByte_eq_setWidth]

/-- A write to the low half leaves the high half as it was (R166). -/
theorem State.setHalf_lo_eq_word (s : State) (xy : Index) (v : Byte) :
    s.setHalf xy .lo v = s.setIndex xy (word ((s.index xy >>> 8).setWidth 8) v) := by
  rw [State.setHalf, joinBytes_eq_word, hiByte_eq_setWidth]

end Sys2Proof.Machine

namespace Sys2Proof.Proofs.Scope

open Sys2Proof.Machine Sys2Proof.Claims

/-- Settles O24: the code of each register is a field of the opcode byte, and a write reads back from that register alone. -/
theorem loadRegister : Obligations.LoadRegister := by
  intro s r r' n
  have hencodeReg : encode (.ldRR r r') = [op 0x40 (8 * r.code + r'.code)] := by cases r <;> cases r' <;> rfl
  have hencodeImm : encode (.ldRN r n) = [op 0x06 (8 * r.code), n] := by cases r <;> rfl
  exact ⟨⟨hencodeReg, rfl⟩, ⟨hencodeImm, rfl⟩, fun q => s.reg8_setReg8 r q n, ⟨rfl, rfl, rfl, rfl, rfl, rfl, rfl⟩,
    by cases r <;> rfl⟩

/-- Settles O25: each form is one register write; the indexed one sets the latch as well (`loadIndexed_eq`). -/
theorem loadRegisterFromMemory : Obligations.LoadRegisterFromMemory := by
  intro s r xy d nn
  refine ⟨⟨by cases r <;> rfl, rfl⟩, ⟨by cases xy <;> cases r <;> rfl, ?_⟩, ⟨rfl, ?_⟩, ⟨rfl, ?_⟩, ?_, rfl⟩
  · cases xy <;> exact congrArg Host.Outcome.next (loadIndexed_eq _ r d s)
  · rw [← joinBytes_eq_word]; rfl
  · rw [← joinBytes_eq_word]; rfl
  · rw [imm16_eq]; rfl

/-- Settles O26: every form is one store, the indexed ones after the latch is set. -/
theorem storeByteForms : Obligations.StoreByteForms := by
  intro s r xy d n nn
  refine ⟨⟨by cases r <;> rfl, storesByte_of_exec_writeByte rfl rfl⟩, ⟨by cases xy <;> cases r <;> rfl, ?_⟩,
    ⟨rfl, storesByte_of_exec_writeByte rfl rfl⟩, ⟨by cases xy <;> rfl, ?_⟩, ⟨rfl, ?_⟩, ⟨rfl, ?_⟩, ?_,
    storesByte_of_exec_writeByte rfl rfl⟩
  · cases xy <;> exact storesByte_of_exec_writeByte rfl rfl
  · cases xy <;> exact storesByte_of_exec_writeByte rfl rfl
  · rw [← joinBytes_eq_word]; exact storesByte_of_exec_writeByte rfl rfl
  · rw [← joinBytes_eq_word]; exact storesByte_of_exec_writeByte rfl rfl
  · rw [imm16_eq]; rfl

/-- Settles O27, by the two lemmas on a write to a half. -/
theorem loadIndexHalf : Obligations.LoadIndexHalf := by
  intro s xy p p' h n
  have hhi : s.half xy .hi = (s.index xy >>> 8).setWidth 8 := hiByte_eq_setWidth _
  have hlo : s.half xy .lo = (s.index xy).setWidth 8 := loByte_eq_setWidth _
  have hsetHi := s.setHalf_hi_eq_word xy n
  have hsetLo := s.setHalf_lo_eq_word xy n
  refine ⟨⟨by cases xy <;> cases p <;> cases p' <;> rfl, rfl⟩, ⟨by cases xy <;> cases h <;> rfl, ?_⟩, ⟨rfl, rfl, hhi, hlo⟩,
    ?_, ?_, hsetHi, hsetLo⟩
  · have hexec : exec (xy.pick (.ldIxhN h n) (.ldIyhN h n)) s = .next (s.setHalf xy h n) := by cases xy <;> rfl
    cases h with
    | hi => rw [Gives, hexec, hsetHi]
    | lo => rw [Gives, hexec, hsetLo]
  · cases p with
    | hi => exact hhi
    | lo => exact hlo
    | _ => rfl
  · cases p with
    | hi => exact hsetHi
    | lo => exact hsetLo
    | _ => rfl

/-- Settles O28: the flags of the two loads of `A` are those of the byte loaded, `fPV` the interrupt flag (R174, R175). -/
theorem interruptAndRefreshLoads : Obligations.InterruptAndRefreshLoads := by
  intro s
  exact ⟨⟨rfl, rfl⟩, ⟨rfl, rfl⟩, ⟨rfl, congrArg Host.Outcome.next (loadAWithIff_eq s.i s)⟩,
    ⟨rfl, congrArg Host.Outcome.next (loadAWithIff_eq s.r s)⟩⟩

end Sys2Proof.Proofs.Scope

/-! PROOFS. The 16-bit loads and stores (family 41_load16_stack.md). -/

namespace Sys2Proof.Machine

open Sys2Proof.Claims

/-- A word in memory has its low byte at the lower address, and the second address wraps (R73). -/
theorem State.readWord_eq_word (s : State) (a : Word) : s.readWord a = word (s.readByte (a + 1)) (s.readByte a) := by
  rw [State.readWord, joinBytes_eq_word]

/-- Each pair is its two registers, high byte first (R32). -/
theorem State.bc_eq_word (s : State) : s.bc = word s.b s.c := joinBytes_eq_word s.b s.c

theorem State.de_eq_word (s : State) : s.de = word s.d s.e := joinBytes_eq_word s.d s.e

theorem State.hl_eq_word (s : State) : s.hl = word s.h s.l := joinBytes_eq_word s.h s.l

/-- An instruction that ends in the store of a word: of memory it stores the two bytes of that word (R73). -/
theorem storesWord_of_exec_writeWord {i : Instr} {s : State} {a w : Word} (h : exec i s = .next (s.writeWord a w)) :
    StoresWord i s s a w := by
  refine ⟨_, h, rfl, fun x => ?_⟩
  have hne : a ≠ a + 1 := by bv_omega
  rw [State.readByte_writeWord, loByte_eq_setWidth, hiByte_eq_setWidth]
  by_cases hx : x = a
  · simp only [hx, hne, if_true, if_false]
  · simp only [hx, if_false]

end Sys2Proof.Machine

namespace Sys2Proof.Proofs.Scope

open Sys2Proof.Machine Sys2Proof.Claims

/-- Settles O29: every form is one register write, and the pairs are their halves in the claims' formulas. -/
theorem loadPair : Obligations.LoadPair := by
  intro s dd xy nn
  refine ⟨⟨?_, rfl⟩, ⟨?_, by cases xy <;> rfl⟩, ⟨rfl, ?_⟩, ⟨by cases xy <;> rfl, by cases xy <;> rfl⟩, s.pair_setPair dd nn,
    s.index_setIndex xy nn, fun _ => s.pair_setPair_ne nn,
    ⟨s.bc_eq_word, s.de_eq_word, s.hl_eq_word, rfl, s.bc_eq_word, s.de_eq_word, s.hl_eq_word⟩, ⟨rfl, rfl, rfl, rfl⟩, ?_⟩
  · rw [imm16_eq]; cases dd <;> rfl
  · rw [imm16_eq]; cases xy <;> rfl
  · rw [← s.hl_eq_word]; rfl
  · rw [← hiByte_eq_setWidth, ← loByte_eq_setWidth]; cases dd <;> rfl

/-- Settles O30: every form is one register write of the word at `nn`. -/
theorem loadPairFromMemory : Obligations.LoadPairFromMemory := by
  intro s dd xy nn
  dsimp only
  rw [← s.readWord_eq_word nn, imm16_eq]
  refine ⟨⟨rfl, ?_⟩, ⟨by cases dd <;> rfl, rfl⟩, ⟨by cases xy <;> rfl, by cases xy <;> rfl⟩⟩
  have hset : s.setPair .hl (s.readWord nn) = { s with l := s.readByte nn, h := s.readByte (nn + 1) } := by
    simp only [State.setPair, State.readWord, hiByte_joinBytes, loByte_joinBytes]
  exact congrArg Host.Outcome.next hset

/-- Settles O31: every form is one store of a word. -/
theorem storeWordForms : Obligations.StoreWordForms := by
  intro s dd xy nn
  rw [imm16_eq, ← s.hl_eq_word]
  refine ⟨⟨rfl, storesWord_of_exec_writeWord rfl⟩, ⟨by cases dd <;> rfl, storesWord_of_exec_writeWord rfl⟩,
    ⟨by cases xy <;> rfl, ?_⟩⟩
  cases xy <;> exact storesWord_of_exec_writeWord rfl

end Sys2Proof.Proofs.Scope

/-! PROOFS. The exchanges and the block instructions (family 42_exchange_block.md): each block instruction is one iteration in a
direction, then the choice of `PC`. -/

namespace Sys2Proof

/-- A difference of unsigned values, taken in the integers and reduced again, is the machine's subtraction (R8). -/
theorem ofInt_toNat_sub_toNat {w : Nat} (a b : BitVec w) : BitVec.ofInt w ((a.toNat : Int) - b.toNat) = a - b := by
  simp only [sub_eq_add_neg, BitVec.ofInt_add, BitVec.ofInt_neg, BitVec.ofInt_natCast, BitVec.ofNat_toNat, BitVec.setWidth_eq]

/-- The lower half of a byte, as a number (R8). -/
theorem toNat_and_low_nibble (v : Byte) : (v &&& 0x0F).toNat = v.toNat % 16 := by
  rw [BitVec.toNat_and]
  exact Nat.and_two_pow_sub_one_eq_mod v.toNat 4

theorem toNat_bitByte (b : Bool) : (bitByte b).toNat = b.toNat := by
  cases b <;> rfl

end Sys2Proof

namespace Sys2Proof.Machine

open Sys2Proof.Claims

/-! ### `EX (SP),HL` -/

/-- An instruction that ends in the store of a word, after writes to registers alone: memory apart it leaves `u` (R71, R73). -/
theorem storesWord_of_exec_writeWord_of_mem {i : Instr} {s u : State} {a w : Word} (h : exec i s = .next (u.writeWord a w))
    (hmem : u.mem = s.mem) : StoresWord i s u a w := by
  have hne : a ≠ a + 1 := by bv_omega
  refine ⟨_, h, by rw [← hmem]; rfl, fun x => ?_⟩
  rw [State.readByte_writeWord, loByte_eq_setWidth, hiByte_eq_setWidth, State.readByte_of_mem hmem, ite_ite_comm]
  exact fun hx' hx => hne (hx.symm.trans hx')

/-! ### The flags of one iteration (R250, R254) -/

/-- Whether the decremented counter is not 0, on the counter before. -/
theorem sub_one_bne_zero (bc : Word) : (bc - 1 != 0) = decide (bc.toNat ≠ 1) := by
  rw [Bool.eq_iff_iff, bne_iff_ne, decide_eq_true_iff]
  constructor <;> bv_omega

theorem Flags.blockLoad_eq_loadFlags (s : State) : s.f.blockLoad (s.readByte s.hl) s.a (s.bc - 1) = loadFlags s := by
  simp only [Flags.blockLoad, loadFlags, sub_one_bne_zero]

theorem Flags.blockCompare_eq_compareFlags (s : State) :
    s.f.blockCompare (s.readByte s.hl) s.a (s.bc - 1) = compareFlags s := by
  simp only [Flags.blockCompare, compareFlags, sub_one_bne_zero, toNat_and_low_nibble, ofInt_toNat_sub_toNat, ← toNat_bitByte,
    beq_eq_decide]

/-! ### One iteration in the claims' formulas -/

/-- The direction of a block instruction by the claims' `up`. -/
def Direction.ofUp (up : Bool) : Direction := if up then .up else .down

/-- One step up or down, modulo 65 536. -/
theorem Direction.move_ofUp (up : Bool) (w : Word) : (Direction.ofUp up).move w = moved up w := by
  cases up <;> apply BitVec.eq_of_toNat_eq <;> simp [Direction.ofUp, Direction.move, moved, Nat.add_comm]

/-- A block transfer is one store, of the byte at `HL` to `DE`; the rest is registers (R250, R251). -/
theorem blockLoad_ofUp (up : Bool) (s : State) :
    blockLoad (.ofUp up) s =
      ({ ((s.setPair .hl (moved up s.hl)).setPair .de (moved up s.de)).setPair .bc (s.bc - 1) with f := loadFlags s } : State).writeByte
        s.de (s.readByte s.hl) := by
  rw [← Direction.move_ofUp, ← Direction.move_ofUp, ← Flags.blockLoad_eq_loadFlags]
  rfl

/-- A block comparison writes registers alone (R254, R255). -/
theorem blockCompare_ofUp (up : Bool) (s : State) :
    blockCompare (.ofUp up) s = { (s.setPair .hl (moved up s.hl)).setPair .bc (s.bc - 1) with f := compareFlags s } := by
  rw [← Direction.move_ofUp, ← Flags.blockCompare_eq_compareFlags]
  rfl

/-! ### The repeating forms (R252, R253, R256, R257, R260) -/

/-- `BC` after an iteration decides whether `LDIR`, `LDDR` go on. -/
theorem blockLoadRepeats_blockLoad (dir : Direction) (s : State) :
    blockLoadRepeats (blockLoad dir s) = decide (s.bc - 1 ≠ 0) := by
  have hbc : (blockLoad dir s).bc = s.bc - 1 := joinBytes_hi_lo (s.bc - 1)
  simp [blockLoadRepeats, hbc, bne, beq_eq_decide]

/-- `BC` after an iteration and the comparison decide whether `CPIR`, `CPDR` go on. -/
theorem blockCompareRepeats_blockCompare (dir : Direction) (s : State) :
    blockCompareRepeats (blockCompare dir s) = decide (s.bc - 1 ≠ 0 ∧ s.a ≠ s.readByte s.hl) := by
  have hbc : (blockCompare dir s).bc = s.bc - 1 := joinBytes_hi_lo (s.bc - 1)
  have hz : (blockCompare dir s).f.z = decide (s.a = s.readByte s.hl) := decide_eq_decide.2 sub_eq_zero
  simp [blockCompareRepeats, hbc, hz, bne, beq_eq_decide]

/-- A block instruction in its single and its repeating form: both run the iteration that leaves `t`, and `PC` goes back to the `ED` byte
exactly when the form repeats and goes on. -/
theorem exec_blockForm {single repeating : Instr} {s t : State} {again : State → Bool} (hsingle : exec single s = .next t)
    (hrepeating : exec repeating s = .next (repeatBlock again t)) (hpc : t.pc = s.pc) (rep : Bool) :
    exec (if rep then repeating else single) s = .next { t with pc := repeatPc (rep && again t) s } := by
  cases rep with
  | false =>
    rw [repeatPc, Bool.false_and, ← hpc]
    exact hsingle
  | true =>
    rw [repeatPc, Bool.true_and, ← hpc, ← repeatBlock_eq]
    exact hrepeating

end Sys2Proof.Machine

namespace Sys2Proof.Proofs.Scope

open Sys2Proof.Machine Sys2Proof.Claims

/-- Settles O35: one iteration is one store among register writes, and `PC` is set apart from it. -/
theorem blockTransfer : Obligations.BlockTransfer := by
  intro s up rep
  refine ⟨by cases rep <;> cases up <;> rfl, ?_⟩
  have hsingle : exec (if up then .ldi else .ldd) s = .next (blockLoad (.ofUp up) s) := by cases up <;> rfl
  have hrepeating : exec (if up then .ldir else .lddr) s = .next (repeatBlock blockLoadRepeats (blockLoad (.ofUp up) s)) := by
    cases up <;> rfl
  have hrun := exec_blockForm hsingle hrepeating rfl rep
  rw [blockLoadRepeats_blockLoad, blockLoad_ofUp] at hrun
  exact storesByte_of_exec_writeByte hrun rfl

/-- Settles O36: one iteration writes registers alone, `A` not among them. -/
theorem blockSearch : Obligations.BlockSearch := by
  intro s up rep
  refine ⟨by cases rep <;> cases up <;> rfl, ?_⟩
  have hsingle : exec (if up then .cpi else .cpd) s = .next (blockCompare (.ofUp up) s) := by cases up <;> rfl
  have hrepeating : exec (if up then .cpir else .cpdr) s = .next (repeatBlock blockCompareRepeats (blockCompare (.ofUp up) s)) := by
    cases up <;> rfl
  have hrun := exec_blockForm hsingle hrepeating rfl rep
  rw [blockCompareRepeats_blockCompare, blockCompare_ofUp] at hrun
  exact hrun

/-- Settles O34: the swaps are register writes; the forms on the stack store the old register after both reads. -/
theorem exchanges : Obligations.Exchanges := by
  intro s xy
  dsimp only
  rw [← s.hl_eq_word, ← s.readWord_eq_word s.sp]
  have hde : (s.setPair .de s.hl).setPair .hl s.de = { s with d := s.h, e := s.l, h := s.d, l := s.e } := by
    simp only [State.setPair, State.hl, State.de, hiByte_joinBytes, loByte_joinBytes]
  have hhl : s.setPair .hl (s.readWord s.sp) = { s with h := s.readByte (s.sp + 1), l := s.readByte s.sp } := by
    simp only [State.setPair, State.readWord, hiByte_joinBytes, loByte_joinBytes]
  refine ⟨⟨rfl, congrArg Host.Outcome.next hde⟩, ⟨rfl, rfl⟩, ⟨rfl, rfl⟩, ⟨rfl, ?_⟩, ⟨by cases xy <;> rfl, ?_⟩⟩
  · rw [← hhl]
    exact storesWord_of_exec_writeWord_of_mem rfl rfl
  · cases xy <;> exact storesWord_of_exec_writeWord_of_mem rfl rfl

end Sys2Proof.Proofs.Scope

/-! PROOFS. The 8-bit arithmetic and logic (family 43_alu8.md): the flag computations in the claims' formulas, then one statement for all
forms of a row `alu[y]` and one for all forms of `INC m`, `DEC m`. -/

namespace Sys2Proof

/-- A bit added as a byte, in the numbers of the rules (R282). -/
theorem ofNat_toNat_eq_bitByte (c : Bool) : BitVec.ofNat 8 c.toNat = bitByte c := by
  rw [← toNat_bitByte, BitVec.ofNat_toNat, BitVec.setWidth_eq]

end Sys2Proof

namespace Sys2Proof.Machine

open Sys2Proof.Claims

/-! ### The flags (R282 to R284, R301, R302) -/

theorem parity_eq_even : ∀ v : Byte, parity v = even v := by decide

theorem Flags.add8_eq_add8 (a v : Byte) (c : Bool) : Flags.add8 a v c = Claims.add8 a v c := by
  have hsum : BitVec.ofNat 8 (a.toNat + v.toNat + c.toNat) = a + v + bitByte c := by
    simp only [BitVec.ofNat_add, BitVec.ofNat_toNat, BitVec.setWidth_eq, ofNat_toNat_eq_bitByte]
  simp only [Flags.add8, Claims.add8, hsum, toNat_and_low_nibble, Bool.decide_and, decide_not, beq_eq_decide, bne, ne_eq,
    gt_iff_lt]

theorem Flags.sub8_eq_sub8 (a v : Byte) (c : Bool) : Flags.sub8 a v c = Claims.sub8 a v c := by
  have hdiff : BitVec.ofInt 8 ((a.toNat : Int) - v.toNat - c.toNat) = a - v - bitByte c := by
    simp only [sub_eq_add_neg, BitVec.ofInt_add, BitVec.ofInt_neg, BitVec.ofInt_natCast, BitVec.ofNat_toNat, BitVec.setWidth_eq,
      ofNat_toNat_eq_bitByte]
  have hborrow (m n k : Nat) : ((m : Int) - n - k < 0) = (m < n + k) := by
    rw [eq_iff_iff]; omega
  simp only [Flags.sub8, Claims.sub8, hdiff, hborrow, toNat_and_low_nibble, Bool.decide_and, decide_not, beq_eq_decide, bne, ne_eq]

theorem Flags.logic_eq_logic (r : Byte) (h : Bool) : Flags.logic r h = Claims.logic r h := by
  simp only [Flags.logic, Claims.logic, parity_eq_even, beq_eq_decide]

/-- One more than a byte, modulo 256 (R301). -/
theorem ofNat_toNat_add_one (v : Byte) : BitVec.ofNat 8 (v.toNat + 1) = v + 1 := by
  rw [BitVec.ofNat_add, BitVec.ofNat_toNat, BitVec.setWidth_eq]; rfl

/-- One less than a byte, modulo 256 (R302). -/
theorem ofNat_toNat_add_255 (v : Byte) : BitVec.ofNat 8 (v.toNat + 255) = v - 1 := by
  rw [BitVec.ofNat_add, BitVec.ofNat_toNat, BitVec.setWidth_eq, BitVec.sub_eq_add_neg]; rfl

theorem Flags.inc_eq_incFlags (f : Flags) (v : Byte) : f.inc v = incFlags f v := by
  simp only [Flags.inc, Flags.szyx, incFlags, ofNat_toNat_add_one, ← BitVec.toNat_inj, toNat_and_low_nibble, beq_eq_decide]
  rfl

theorem Flags.dec_eq_decFlags (f : Flags) (v : Byte) : f.dec v = decFlags f v := by
  simp only [Flags.dec, Flags.szyx, decFlags, ofNat_toNat_add_255, ← BitVec.toNat_inj, toNat_and_low_nibble, beq_eq_decide]
  rfl

/-! ### The row `alu[y]` (R285 to R293) -/

/-- `alu[y]` (R285). -/
def AluOp.row (y : Fin 8) : AluOp :=
  match y with
  | 0 => .addOp
  | 1 => .adcOp
  | 2 => .subOp
  | 3 => .sbcOp
  | 4 => .andOp
  | 5 => .xorOp
  | 6 => .orOp
  | 7 => .cpOp

/-- Each operation of the row has the result that its rule gives. -/
theorem AluOp.run_row (y : Fin 8) (a v : Byte) (f : Flags) : (AluOp.row y).run a v f = aluResult y a v f.c := by
  match y with
  | 0 | 1 => exact Flags.add8_eq_add8 _ _ _
  | 2 | 3 => exact Flags.sub8_eq_sub8 _ _ _
  | 4 | 5 | 6 => exact congrArg (Prod.mk _) (Flags.logic_eq_logic _ _)
  | 7 => simp only [AluOp.row, AluOp.run, aluResult, Flags.cp, Flags.sub8_eq_sub8]

/-- The instruction of the row with a source of each form, as the decoder reads it. -/
def aluForm (y : Fin 8) : Operand → Instr
  | .reg r => aluR y r
  | .atHl => aluAtHl y
  | .imm n => aluN y n
  | .half xy h => aluHalf xy y h
  | .atIndexed xy d => aluIndexed xy y d

theorem exec_aluForm (y : Fin 8) (o : Operand) (s : State) : exec (aluForm y o) s = .next (alu (AluOp.row y) o s) := by
  cases o with
  | half xy h => cases xy <;> fin_cases y <;> rfl
  | atIndexed xy d => cases xy <;> fin_cases y <;> rfl
  | _ => fin_cases y <;> rfl

/-- The operation of the row takes `A` and the operand to the new `A` and flags; an indexed source writes the latch as well (R47). -/
theorem gives_aluForm (y : Fin 8) (o : Operand) (s : State) :
    Gives (aluForm y o) s
      { s with
        a := (aluResult y s.a (s.load o) s.f.c).1, f := (aluResult y s.a (s.load o) s.f.c).2, latch := (s.locate o).latch } := by
  rw [Gives, exec_aluForm, alu_eq, AluOp.run_row]

/-- Every form of the row in its encoding (R285). -/
theorem aluForms (y : Fin 8) :
    AluForms y (aluR y) (aluAtHl y) (aluN y) (fun xy h => aluHalf xy y h) (fun xy d => aluIndexed xy y d) := by
  refine ⟨fun r s => ⟨?_, gives_aluForm y (.reg r) s⟩, fun s => ⟨?_, gives_aluForm y .atHl s⟩,
    fun n s => ⟨?_, gives_aluForm y (.imm n) s⟩, fun xy h s => ⟨?_, gives_aluForm y (.half xy h) s⟩,
    fun xy d s => ⟨?_, gives_aluForm y (.atIndexed xy d) s⟩⟩
  · cases r <;> fin_cases y <;> rfl
  · fin_cases y <;> rfl
  · fin_cases y <;> rfl
  · cases xy <;> cases h <;> fin_cases y <;> rfl
  · cases xy <;> fin_cases y <;> rfl

/-! ### `INC m` and `DEC m` (R300 to R302) -/

/-- The operand becomes `next` of its old value and the flags are `flags` of it; an indexed operand writes the latch as well (R47). -/
def stepOperand (next : Byte → Byte) (flags : Flags → Byte → Flags) (o : Operand) (s : State) : State :=
  { s.store o (next (s.load o)) with f := flags s.f (s.load o), latch := (s.locate o).latch }

theorem incOperand_eq_stepOperand : incOperand = stepOperand (fun v => BitVec.ofNat 8 (v.toNat + 1)) incFlags := by
  funext o s
  rw [incOperand_eq, stepOperand, Flags.inc_eq_incFlags, ofNat_toNat_add_one]

theorem decOperand_eq_stepOperand : decOperand = stepOperand (fun v => BitVec.ofNat 8 (v.toNat + 255)) decFlags := by
  funext o s
  rw [decOperand_eq, stepOperand, Flags.dec_eq_decFlags, ofNat_toNat_add_255]

/-- On a register or an index half the step writes registers alone; on a cell it is one store (R300). -/
theorem stepForms_of_exec {o : Nat} {next : Byte → Byte} {flags : Flags → Byte → Flags} {run : Operand → State → State}
    {onR : Reg8 → Instr} {onHl : Instr} {onHalf : Index → Half → Instr} {onIndexed : Index → Byte → Instr}
    (hrun : run = stepOperand next flags)
    (hreg : ∀ r s, encode (onR r) = [op (0x04 + o) (8 * r.code)] ∧ exec (onR r) s = .next (run (.reg r) s))
    (hhl : ∀ s, encode onHl = [op (0x34 + o) 0] ∧ exec onHl s = .next (run .atHl s))
    (hhalf : ∀ xy h s, encode (onHalf xy h) = [lead xy, op (8 * h.code + 4) o] ∧
      exec (onHalf xy h) s = .next (run (.half xy h) s))
    (hindexed : ∀ xy d s, encode (onIndexed xy d) = [lead xy, op (0x34 + o) 0, d] ∧
      exec (onIndexed xy d) s = .next (run (.atIndexed xy d) s)) :
    StepForms o next flags onR onHl onHalf onIndexed := by
  subst hrun
  refine ⟨fun r s => (hreg r s).imp_right fun h => ?_, fun s => (hhl s).imp_right fun h => storesByte_of_exec_writeByte h rfl,
    fun xy half s => (hhalf xy half s).imp (fun henc => henc.trans (by cases half <;> rfl)) fun h => ?_,
    fun xy d s => (hindexed xy d s).imp_right fun h => storesByte_of_exec_writeByte h rfl⟩
  · rw [Gives, h]; cases r <;> rfl
  · rw [Gives, h]; cases xy <;> cases half <;> rfl

/-! ### Decimal adjustment after an addition (R331) -/

/-- The two corrections of `DAA` share no bit, so together they are their sum. -/
theorem toNat_decimal_correction (low high : Bool) :
    ((if low then (0x06 : Byte) else 0) ||| (if high then 0x60 else 0)).toNat =
      (if low then 6 else 0) + (if high then 0x60 else 0) := by
  cases low <;> cases high <;> rfl

/-- `DAA` after an addition: each digit that is above 9, or has carried, is corrected by 6. -/
theorem Flags.daa_of_not_n {f : Flags} (hn : f.n = false) (a : Byte) :
    (f.daa a).1.toNat =
        (a.toNat + ((if f.h || decide (9 < a.toNat % 16) then 6 else 0) + (if f.c || decide (0x99 < a.toNat) then 0x60 else 0))) % 256 ∧
      (f.daa a).2.c = (f.c || decide (0x99 < a.toNat)) := by
  refine ⟨?_, rfl⟩
  rw [← toNat_decimal_correction, ← BitVec.toNat_add]
  simp only [Flags.daa, hn, Bool.false_eq_true, if_false]

theorem Flags.toNat_add8 (a v : Byte) (c : Bool) : (Flags.add8 a v c).1.toNat = (a.toNat + v.toNat + c.toNat) % 256 := by
  rw [Flags.add8_eq_add8]
  exact BitVec.toNat_ofNat _ 8

/-- `DAA` after `ADC` corrects the low digit exactly when the low digits add up to more than 9. -/
theorem Flags.add8_low_correction (a v : Byte) (c : Bool) :
    ((Flags.add8 a v c).2.h || decide (9 < (Flags.add8 a v c).1.toNat % 16)) = decide (9 < a.toNat % 16 + v.toNat % 16 + c.toNat) := by
  rw [Flags.toNat_add8, Flags.add8, ← Bool.decide_or, decide_eq_decide]
  omega

/-- `DAA` after `ADC` corrects the high digit, and carries, exactly when the binary sum is above 99h. -/
theorem Flags.add8_high_correction (a v : Byte) (c : Bool) :
    ((Flags.add8 a v c).2.c || decide (0x99 < (Flags.add8 a v c).1.toNat)) = decide (0x99 < a.toNat + v.toNat + c.toNat) := by
  rw [Flags.toNat_add8, Flags.add8, ← Bool.decide_or, decide_eq_decide]
  omega

/-- What `DAA` leaves after `ADC`: the binary sum, 6 added to each digit that came out above 9, and the decimal carry. -/
theorem Flags.daa_add8 (a v : Byte) (c : Bool) :
    ((Flags.add8 a v c).2.daa (Flags.add8 a v c).1).1.toNat =
        (a.toNat + v.toNat + c.toNat +
          ((if 9 < a.toNat % 16 + v.toNat % 16 + c.toNat then 6 else 0) + (if 0x99 < a.toNat + v.toNat + c.toNat then 0x60 else 0))) %
          256 ∧
      ((Flags.add8 a v c).2.daa (Flags.add8 a v c).1).2.c = decide (0x99 < a.toNat + v.toNat + c.toNat) := by
  obtain ⟨hsum, hcarry⟩ := Flags.daa_of_not_n (f := (Flags.add8 a v c).2) rfl (Flags.add8 a v c).1
  rw [Flags.add8_low_correction, Flags.add8_high_correction, Flags.toNat_add8, Nat.mod_add_mod] at hsum
  rw [Flags.add8_high_correction] at hcarry
  exact ⟨by simpa only [decide_eq_true_eq] using hsum, hcarry⟩

/-- The corrected sum of two packed BCD numbers is their decimal sum: four cases, by which of the two digits is corrected. -/
theorem decimal_digits_of_corrected_sum {m n k r : Nat} (hm : m % 16 ≤ 9 ∧ m / 16 ≤ 9) (hn : n % 16 ≤ 9 ∧ n / 16 ≤ 9) (hk : k ≤ 1)
    (hr : r = (m + n + k + ((if 9 < m % 16 + n % 16 + k then 6 else 0) + (if 0x99 < m + n + k then 0x60 else 0))) % 256) :
    r % 16 ≤ 9 ∧ r / 16 ≤ 9 ∧
      100 * (decide (0x99 < m + n + k)).toNat + 10 * (r / 16) + r % 16 =
        10 * (m / 16) + m % 16 + (10 * (n / 16) + n % 16) + k := by
  by_cases hlow : 9 < m % 16 + n % 16 + k <;> by_cases hhigh : 0x99 < m + n + k <;>
    simp only [hlow, hhigh, if_true, if_false, decide_true, decide_false, Bool.toNat_true, Bool.toNat_false] at hr ⊢ <;> omega

end Sys2Proof.Machine

namespace Sys2Proof.Proofs.Scope

open Sys2Proof.Machine Sys2Proof.Claims

/-- Settles O37: two rows of `alu[y]`. -/
theorem addForms : Obligations.AddForms := ⟨aluForms 0, aluForms 1⟩

/-- Settles O38: two rows of `alu[y]`. -/
theorem subtractForms : Obligations.SubtractForms := ⟨aluForms 2, aluForms 3⟩

/-- Settles O39: the last row of `alu[y]`, which leaves `A` as it was. -/
theorem compareForms : Obligations.CompareForms := aluForms 7

/-- Settles O40: three rows of `alu[y]`. -/
theorem logicForms : Obligations.LogicForms := ⟨aluForms 4, aluForms 5, aluForms 6⟩

/-- Settles O41: `INC` and `DEC` differ in the new value, the flags and one bit of the opcode. -/
theorem incrementAndDecrementForms : Obligations.IncrementAndDecrementForms :=
  ⟨stepForms_of_exec incOperand_eq_stepOperand (fun r _ => ⟨by cases r <;> rfl, rfl⟩) (fun _ => ⟨rfl, rfl⟩)
      (fun xy h _ => ⟨by cases xy <;> cases h <;> rfl, by cases xy <;> rfl⟩)
      (fun xy _ _ => ⟨by cases xy <;> rfl, by cases xy <;> rfl⟩),
    stepForms_of_exec decOperand_eq_stepOperand (fun r _ => ⟨by cases r <;> rfl, rfl⟩) (fun _ => ⟨rfl, rfl⟩)
      (fun xy h _ => ⟨by cases xy <;> cases h <;> rfl, by cases xy <;> rfl⟩)
      (fun xy _ _ => ⟨by cases xy <;> rfl, by cases xy <;> rfl⟩)⟩

/-- Settles O43: `ADC` leaves the binary sum with its half carry and carry, which `DAA` corrects digit by digit. -/
theorem decimalAdjustAfterAddition : Obligations.DecimalAdjustAfterAddition := by
  intro s n hlo hhi hlo' hhi'
  obtain ⟨hsum, hcarry⟩ := Flags.daa_add8 s.a n s.f.c
  have hdigits := decimal_digits_of_corrected_sum ⟨hlo, hhi⟩ ⟨hlo', hhi'⟩ (Bool.toNat_le s.f.c) hsum
  rw [← hcarry] at hdigits
  exact ⟨_, _, rfl, rfl, hdigits⟩

end Sys2Proof.Proofs.Scope

/-! PROOFS. General purpose and CPU control (family 44_general_cpu.md): `DAA` by its correction as a number, and the step from memory of an
instruction whose encoding stands at `PC`. -/

namespace Sys2Proof.Machine

open Sys2Proof.Claims

/-! ### `DAA` (R331) -/

/-- What `DAA` adds to or takes from `A`, as a number (R331). -/
def Flags.decimalCorrection (f : Flags) (a : Byte) : Nat :=
  (if f.h || decide (a.toNat % 16 > 9) then 6 else 0) + (if f.c || decide (a.toNat > 0x99) then 0x60 else 0)

/-- The new `A` of `DAA` in the numbers of the rule. -/
theorem Flags.daa_fst (f : Flags) (a : Byte) :
    (f.daa a).1 =
      BitVec.ofNat 8 (if f.n then a.toNat + 256 - f.decimalCorrection a else a.toNat + f.decimalCorrection a) := by
  have hcorr := toNat_decimal_correction (f.h || decide (9 < a.toNat % 16)) (f.c || decide (0x99 < a.toNat))
  simp only [Flags.daa, Flags.decimalCorrection, gt_iff_lt, ← hcorr]
  generalize ((if f.h || decide (9 < a.toNat % 16) then (0x06 : Byte) else 0) |||
    (if f.c || decide (0x99 < a.toNat) then 0x60 else 0)) = corr
  cases f.n <;> simp only [Bool.false_eq_true, if_true, if_false] <;> bv_omega

/-- Bit 4 flips on an addition exactly when the low digit carries; a multiple of 32 does not reach that bit. -/
theorem testBit_four_add_ne_iff {m low high : Nat} (hlow : low < 16) (hhigh : high % 32 = 0) :
    m.testBit 4 ≠ (m + (low + high)).testBit 4 ↔ 15 < m % 16 + low := by
  simp only [Nat.testBit_eq_decide_div_mod_eq, ne_eq, decide_eq_decide]
  omega

/-- Bit 4 flips on a subtraction exactly when the low digit borrows. -/
theorem testBit_four_sub_ne_iff {m low high : Nat} (hlow : low < 16) (hhigh : high % 32 = 0) (hle : high ≤ 224) :
    m.testBit 4 ≠ (m + 256 - (low + high)).testBit 4 ↔ m % 16 < low := by
  simp only [Nat.testBit_eq_decide_div_mod_eq, ne_eq, decide_eq_decide]
  omega

/-- Adding the low correction carries exactly when the digit is above 9: 6 on a digit up to 9 stays below 16. -/
theorem low_correction_carries_iff (h : Bool) (m : Nat) :
    15 < m % 16 + (if h || decide (m % 16 > 9) then 6 else 0) ↔ 9 < m % 16 := by
  by_cases hdigit : m % 16 > 9
  · rw [if_pos (by simp [hdigit])]
    omega
  · split <;> omega

/-- Taking the low correction away borrows exactly when it was owed to a half carry and the digit is below 6. -/
theorem low_correction_borrows_iff (h : Bool) (m : Nat) :
    m % 16 < (if h || decide (m % 16 > 9) then 6 else 0) ↔ h = true ∧ m % 16 < 6 := by
  cases h with
  | true => simp
  | false =>
    simp only [Bool.false_or, decide_eq_true_eq, Bool.false_eq_true, false_and, iff_false]
    split <;> omega

/-- The half carry of `DAA` is the change of bit 4 of `A` (R331). -/
theorem Flags.daa_h (f : Flags) (a : Byte) : (f.daa a).2.h = decide (a.getLsbD 4 ≠ (f.daa a).1.getLsbD 4) := by
  have hlow : (if f.h || decide (a.toNat % 16 > 9) then 6 else 0) < 16 := by split <;> decide
  have hhigh : (if f.c || decide (a.toNat > 0x99) then 0x60 else 0) % 32 = 0 := by split <;> rfl
  have hle : (if f.c || decide (a.toNat > 0x99) then 0x60 else 0) ≤ 224 := by split <;> decide
  rw [Flags.daa_fst, BitVec.getLsbD_ofNat, BitVec.getLsbD, Flags.decimalCorrection, decide_eq_true (by decide : 4 < 8), Bool.true_and]
  cases hn : f.n with
  | false =>
    simp only [Bool.false_eq_true, if_false, Flags.daa, hn, testBit_four_add_ne_iff hlow hhigh, low_correction_carries_iff, gt_iff_lt]
  | true =>
    simp only [if_true, Flags.daa, hn, testBit_four_sub_ne_iff hlow hhigh hle, low_correction_borrows_iff,
      Bool.decide_and, Bool.decide_eq_true]

/-! ### `NEG` and `CPL` (R332, R333) -/

theorem ofNat_255_sub_toNat (a : Byte) : BitVec.ofNat 8 (255 - a.toNat) = ~~~a := by
  apply BitVec.eq_of_toNat_eq
  rw [BitVec.toNat_not, BitVec.toNat_ofNat]
  omega

/-- `NEG` sets `fC` unless `A` is 0, and `fPV` when `A` is 80h, which has no negative (R333). -/
theorem sub8_zero_flags : ∀ a : Byte, (sub8 0 a false).2.c = decide (a ≠ 0) ∧ (sub8 0 a false).2.pv = decide (a = 0x80) := by
  decide

/-! ### `HALT` (R338) -/

/-- One less than a word, modulo 65 536. -/
theorem ofNat_toNat_add_65535 (w : Word) : BitVec.ofNat 16 (w.toNat + 65535) = w - 1 := by
  bv_omega

/-! ### A step from the encoding in memory (R101) -/

/-- With the encoding of an instruction at `PC`, a step fetches it and runs it. -/
theorem step_of_codeBytes_eq_encode {s : State} {n : Nat} {i : Instr} (hrunning : s.running) (hplane : s.plane = .base)
    (hn : n ≤ 65540) (hbytes : s.codeBytes n = encode i) (hw : i.wellFormed = true) (hi : i.isPrefix = false) :
    step s = exec i { s.tick with pc := s.pc + BitVec.ofNat 16 n, r := incRBy (if i.plane = .base then 1 else 2) s.r } := by
  have hdecode : decode (s.codeBytes n) = .ok ⟨i, if i.plane = .base then 1 else 2, []⟩ := by rw [hbytes, decode_encode hw]
  rw [Sys2Proof.Proofs.Scope.stepRunsDecodedInstruction.1 s n _ i hrunning hn hdecode hi, ← hplane]
  rfl

/-- A byte of the rows of `IM` in the `ED` plane (R341). -/
theorem exists_eq_im_opcode : ∀ b : Byte, b &&& 0xC7 = 0x46 → ∃ y : Fin 8, b = op 0x46 (8 * y) := by
  decide

/-- An instruction of the `ED` plane that does nothing beyond the fetch, by its second byte: `NOP*` or `IM` (R337, R341). -/
structure IdleEd (b : Byte) (i : Instr) : Prop where
  encode_eq : encode i = [0xED, b]
  wellFormed : i.wellFormed = true
  plane_eq : i.plane = .ed
  isPrefix : i.isPrefix = false
  exec_eq : ∀ s, exec i s = .next s

theorem idleEd_nopEd {b : Byte} (h : edUnassigned b = true) : IdleEd b (.nopEd b) :=
  ⟨rfl, h, rfl, rfl, fun _ => rfl⟩

/-- The modes of `IM` share their encoding; `y` says which of the three a byte stands for (R124). -/
theorem encode_im (y : Fin 8) :
    encode (.im0 y) = [0xED, op 0x46 (8 * y)] ∧ encode (.im1 y) = [0xED, op 0x46 (8 * y)] ∧
      encode (.im2 y) = [0xED, op 0x46 (8 * y)] := by
  fin_cases y <;> exact ⟨rfl, rfl, rfl⟩

theorem imMode_cases (y : Fin 8) : imMode y = 0 ∨ imMode y = 1 ∨ imMode y = 2 := by
  unfold imMode
  split
  · exact .inr (.inl rfl)
  · exact .inr (.inr rfl)
  · exact .inl rfl

theorem exists_idleEd_im (y : Fin 8) : ∃ i, IdleEd (op 0x46 (8 * y)) i := by
  obtain ⟨henc0, henc1, henc2⟩ := encode_im y
  rcases imMode_cases y with hmode | hmode | hmode
  · exact ⟨.im0 y, henc0, beq_iff_eq.2 hmode, rfl, rfl, fun _ => rfl⟩
  · exact ⟨.im1 y, henc1, beq_iff_eq.2 hmode, rfl, rfl, fun _ => rfl⟩
  · exact ⟨.im2 y, henc2, beq_iff_eq.2 hmode, rfl, rfl, fun _ => rfl⟩

/-- Such an instruction at `PC` costs its two fetches alone. -/
theorem step_of_idleEd {s : State} {i : Instr} (hrunning : s.running) (hplane : s.plane = .base) (hed : s.readByte s.pc = 0xED)
    (h : IdleEd (s.readByte (s.pc + 1)) i) : step s = .next { s.tick with pc := s.pc + 2, r := incR (incR s.r) } := by
  have hbytes : s.codeBytes 2 = encode i := by rw [h.encode_eq, ← hed]; rfl
  rw [step_of_codeBytes_eq_encode hrunning hplane (by decide) hbytes h.wellFormed h.isPrefix, h.exec_eq, h.plane_eq]
  rfl

end Sys2Proof.Machine

namespace Sys2Proof.Proofs.Scope

open Sys2Proof.Machine Sys2Proof.Claims

/-- Settles O42: the result and the half carry in the rule's numbers; the other flags are bits of the result. -/
theorem decimalAdjust : Obligations.DecimalAdjust := by
  intro s
  refine ⟨rfl, ?_⟩
  have hflags : (s.f.daa s.a).2 =
      { s := (s.f.daa s.a).1.getLsbD 7, z := decide ((s.f.daa s.a).1 = 0), y := (s.f.daa s.a).1.getLsbD 5,
        x := (s.f.daa s.a).1.getLsbD 3, pv := even (s.f.daa s.a).1, h := decide (s.a.getLsbD 4 ≠ (s.f.daa s.a).1.getLsbD 4),
        c := s.f.c || decide (s.a.toNat > 0x99), n := s.f.n } := by
    rw [← Flags.daa_h, ← parity_eq_even, ← beq_eq_decide]; rfl
  have hexec : exec .daa s = .next { s with a := (s.f.daa s.a).1, f := (s.f.daa s.a).2 } := rfl
  rw [Gives, hexec, hflags, Flags.daa_fst]
  rfl

/-- Settles O44: each is one write of `A` and the flags, `NEG` a subtraction from 0. -/
theorem complementNegateCarry : Obligations.ComplementNegateCarry := by
  intro s y
  dsimp only
  rw [ofNat_255_sub_toNat]
  refine ⟨⟨rfl, rfl⟩, ⟨by fin_cases y <;> rfl, ?_⟩, sub8_zero_flags s.a, ⟨rfl, rfl⟩, ⟨rfl, rfl⟩⟩
  rw [← Flags.sub8_eq_sub8]
  rfl

/-- Settles O45: the effects by evaluation, the steps from memory by the encoding that stands at `PC`. -/
theorem noOperationsAndInterruptEnable : Obligations.NoOperationsAndInterruptEnable := by
  refine ⟨fun s o y => ?_, fun s hrunning hplane => ⟨fun h => ?_, fun hed h => ?_, fun hed h => ?_, fun h => ?_, fun h => ?_⟩⟩
  · obtain ⟨henc0, henc1, henc2⟩ := encode_im y
    exact ⟨⟨rfl, rfl⟩, ⟨rfl, rfl⟩, ⟨henc0, rfl⟩, ⟨henc1, rfl⟩, ⟨henc2, rfl⟩, ⟨rfl, rfl⟩, ⟨rfl, rfl⟩⟩
  · exact step_of_codeBytes_eq_encode (n := 1) (i := .nop) hrunning hplane (by decide) (congrArg ([·]) h) rfl rfl
  · exact step_of_idleEd hrunning hplane hed (idleEd_nopEd h)
  · obtain ⟨y, hy⟩ := exists_eq_im_opcode _ h
    obtain ⟨i, hi⟩ := exists_idleEd_im y
    exact step_of_idleEd hrunning hplane hed (hy ▸ hi)
  · exact step_of_codeBytes_eq_encode (n := 1) (i := .di) hrunning hplane (by decide) (congrArg ([·]) h) rfl rfl
  · exact step_of_codeBytes_eq_encode (n := 1) (i := .ei) hrunning hplane (by decide) (congrArg ([·]) h) rfl rfl

/-- Settles O46, mode by mode. -/
theorem haltGoesOn : Obligations.HaltGoesOn := by
  intro s
  refine ⟨rfl, ?_⟩
  have hexec : exec .halt s = .next (haltAt Config.haltMode s) := rfl
  rw [Gives, hexec, ofNat_toNat_add_65535]
  cases Config.haltMode <;> rfl

end Sys2Proof.Proofs.Scope

/-! PROOFS. The 16-bit arithmetic (family 45_alu16.md): the results and flags in the claims' formulas, then the statements by operand. -/

namespace Sys2Proof

/-! ### Words in the numbers of the rules (R361 to R368) -/

/-- A bit of a sum does not see the carry out of the word. -/
theorem getLsbD_add_eq_testBit {w k : Nat} (a v : BitVec w) (hk : k < w) : (a + v).getLsbD k = (a.toNat + v.toNat).testBit k := by
  rw [BitVec.getLsbD, BitVec.toNat_add, Nat.testBit_mod_two_pow, decide_eq_true hk, Bool.true_and]

theorem ofInt_toNat_sub_toNat_sub {w : Nat} (a v : BitVec w) (k : Nat) :
    BitVec.ofInt w ((a.toNat : Int) - v.toNat - k) = a - v - BitVec.ofNat w k := by
  rw [sub_eq_add_neg, BitVec.ofInt_add, ofInt_toNat_sub_toNat, BitVec.ofInt_neg, BitVec.ofInt_natCast, ← sub_eq_add_neg]

/-- An integer difference is negative exactly when the subtraction borrows (R364). -/
theorem natCast_sub_sub_neg_iff (m n k : Nat) : (m : Int) - n - k < 0 ↔ m < n + k := by
  omega

/-- One more than a word, modulo 65 536 (R365). -/
theorem ofNat_toNat_add_one_word (w : Word) : BitVec.ofNat 16 (w.toNat + 1) = w + 1 := by
  bv_omega

end Sys2Proof

namespace Sys2Proof.Machine

open Sys2Proof.Claims

/-! ### The results and flags (R361, R363, R364) -/

theorem Flags.add16_eq_add16 (f : Flags) (a v : Word) : f.add16 a v = Claims.add16 f a v := by
  have hsum : BitVec.ofNat 16 (a.toNat + v.toNat) = a + v := by
    simp only [BitVec.ofNat_add, BitVec.ofNat_toNat, BitVec.setWidth_eq]
  have hbit13 := getLsbD_add_eq_testBit a v (by decide : 13 < 16)
  have hbit11 := getLsbD_add_eq_testBit a v (by decide : 11 < 16)
  simp only [Flags.add16, Claims.add16, hsum, hbit13, hbit11, gt_iff_lt]

theorem Flags.adc16_eq_adc16 (a v : Word) (c : Bool) : Flags.adc16 a v c = Claims.adc16 a v c := by
  have hsum : BitVec.ofNat 16 (a.toNat + v.toNat + c.toNat) = a + v + BitVec.ofNat 16 c.toNat := by
    simp only [BitVec.ofNat_add, BitVec.ofNat_toNat, BitVec.setWidth_eq]
  simp only [Flags.adc16, Claims.adc16, hsum, Bool.decide_and, decide_not, beq_eq_decide, bne, ne_eq, gt_iff_lt]

theorem Flags.sbc16_eq_sbc16 (a v : Word) (c : Bool) : Flags.sbc16 a v c = Claims.sbc16 a v c := by
  simp only [Flags.sbc16, Claims.sbc16, ofInt_toNat_sub_toNat_sub, natCast_sub_sub_neg_iff, Bool.decide_and, decide_not,
    beq_eq_decide, bne, ne_eq]

end Sys2Proof.Machine

namespace Sys2Proof.Proofs.Scope

open Sys2Proof.Machine Sys2Proof.Claims

/-- Settles O47: both forms are the one addition `Flags.add16`, whose result and flags are the rule's. -/
theorem addPair : Obligations.AddPair := by
  intro s ss pp xy v
  have hv : v = s.idxPair xy pp := by
    cases pp with
    | bc => exact s.bc_eq_word.symm
    | de => exact s.de_eq_word.symm
    | xy | sp => rfl
  rw [hv, ← Flags.add16_eq_add16, ← Flags.add16_eq_add16]
  exact ⟨⟨by cases ss <;> rfl, rfl⟩, by cases xy <;> cases pp <;> rfl, by cases xy <;> rfl⟩

/-- Settles O48: the result and flags of `ADC HL,ss` and `SBC HL,ss` are the rules' for any operand. -/
theorem addAndSubtractPairWithCarry : Obligations.AddAndSubtractPairWithCarry := by
  intro s ss
  rw [← Flags.adc16_eq_adc16, ← Flags.sbc16_eq_sbc16]
  exact ⟨⟨by cases ss <;> rfl, rfl⟩, by cases ss <;> rfl, rfl⟩

/-- Settles O49: each is one write of a register, which leaves the flags. -/
theorem countPairs : Obligations.CountPairs := by
  intro s ss xy
  simp only [ofNat_toNat_add_one_word, ofNat_toNat_add_65535]
  exact ⟨⟨by cases ss <;> rfl, rfl⟩, ⟨by cases xy <;> rfl, by cases xy <;> rfl⟩, ⟨by cases ss <;> rfl, rfl⟩,
    by cases xy <;> rfl, by cases xy <;> rfl⟩

end Sys2Proof.Proofs.Scope

/-! PROOFS. Rotates and shifts (family 46_rotate_shift.md): every result is a shifted byte joined with the bits that come in, so a number;
the statements follow for a row `rot[y]` at a time. -/

namespace Sys2Proof

/-! ### Shifted bytes in the numbers of the rules (R8) -/

/-- Bits joined below a shifted word are added to it. -/
theorem shiftLeft_or_eq_ofNat {w k : Nat} (v u : BitVec w) (hu : u.toNat < 2 ^ k) :
    v <<< k ||| u = BitVec.ofNat w (v.toNat * 2 ^ k + u.toNat) := by
  have hshift : BitVec.ofNat w (v.toNat <<< k) = v <<< k := by
    apply BitVec.eq_of_toNat_eq
    rw [BitVec.toNat_ofNat, BitVec.toNat_shiftLeft]
  rw [← Nat.shiftLeft_eq, Nat.shiftLeft_add_eq_or_of_lt hu, BitVec.ofNat_or, hshift, BitVec.ofNat_toNat, BitVec.setWidth_eq]

theorem toNat_ushiftRight_eq_div {w : Nat} (v : BitVec w) (k : Nat) : (v >>> k).toNat = v.toNat / 2 ^ k := by
  rw [BitVec.toNat_ushiftRight, Nat.shiftRight_eq_div_pow]

/-- A shift to the left by one, a bit coming in (R401, R403, R405, R407). -/
theorem shiftLeft_or_bitByte (v : Byte) (c : Bool) : v <<< 1 ||| bitByte c = BitVec.ofNat 8 (2 * v.toNat + c.toNat) := by
  have hlt : (bitByte c).toNat < 2 ^ 1 := by rw [toNat_bitByte]; exact c.toNat_lt
  rw [shiftLeft_or_eq_ofNat v _ hlt, toNat_bitByte, Nat.mul_comm]
  rfl

/-- A shift to the right by one, a bit coming in (R402, R404, R406, R408). -/
theorem ushiftRight_or_bitByte (v : Byte) (c : Bool) :
    v >>> 1 ||| bitByte c <<< 7 = BitVec.ofNat 8 (v.toNat / 2 + 128 * c.toNat) := by
  have hhalf := toNat_ushiftRight_eq_div v 1
  have hlt : (v >>> 1).toNat < 2 ^ 7 := by omega
  rw [BitVec.or_comm, shiftLeft_or_eq_ofNat _ _ hlt, hhalf, toNat_bitByte, Nat.add_comm, Nat.mul_comm]
  rfl

/-- The sign bit in its place (R406). -/
theorem and_sign_bit : ∀ v : Byte, v &&& 0x80 = bitByte (v.getLsbD 7) <<< 7 := by
  decide

/-- The high digit in its place (R410, R411). -/
theorem and_high_digit : ∀ v : Byte, v &&& (0xF0 : Byte) = (v >>> 4) <<< 4 := by
  decide

/-- Two digits, the high one in its place, as a number (R410, R411). -/
theorem high_digit_or_eq_ofNat (v u : Byte) (hu : u.toNat < 16) :
    (v &&& 0xF0) ||| u = BitVec.ofNat 8 (v.toNat / 16 * 16 + u.toNat) := by
  rw [and_high_digit, shiftLeft_or_eq_ofNat _ u hu, toNat_ushiftRight_eq_div]
  rfl

/-- A low digit shifted up takes the high digit's place, the old high digit goes out (R410, R411). -/
theorem shiftLeft_digit_or_eq_ofNat (v u : Byte) (hu : u.toNat < 16) :
    v <<< 4 ||| u = BitVec.ofNat 8 (v.toNat % 16 * 16 + u.toNat) := by
  rw [shiftLeft_or_eq_ofNat v u hu]
  apply BitVec.eq_of_toNat_eq
  simp only [BitVec.toNat_ofNat]
  omega

end Sys2Proof

namespace Sys2Proof.Machine

open Sys2Proof.Claims

/-! ### The row `rot[y]` (R125, R400 to R408) -/

/-- `rot[y]` (R125). -/
def RotOp.row (y : Fin 8) : RotOp :=
  match y with
  | 0 => .rlc
  | 1 => .rrc
  | 2 => .rl
  | 3 => .rr
  | 4 => .sla
  | 5 => .sra
  | 6 => .sll
  | 7 => .srl

/-- Each operation of the row has the result and the carry that its rule gives: a shift by one, with the bit that comes in. -/
theorem RotOp.run_row (y : Fin 8) (v : Byte) (c : Bool) : (RotOp.row y).run v c = rotResult y v c := by
  match y with
  | 0 => exact congrArg (·, v.getLsbD 7) (shiftLeft_or_bitByte v (v.getLsbD 7))
  | 1 => exact congrArg (·, v.getLsbD 0) (ushiftRight_or_bitByte v (v.getLsbD 0))
  | 2 => exact congrArg (·, v.getLsbD 7) (shiftLeft_or_bitByte v c)
  | 3 => exact congrArg (·, v.getLsbD 0) (ushiftRight_or_bitByte v c)
  | 4 => exact congrArg (·, v.getLsbD 7) (BitVec.or_zero.symm.trans (shiftLeft_or_bitByte v false))
  | 5 =>
    have hsign := ushiftRight_or_bitByte v (v.getLsbD 7)
    rw [← and_sign_bit] at hsign
    exact congrArg (·, v.getLsbD 0) hsign
  | 6 => exact congrArg (·, v.getLsbD 7) (shiftLeft_or_bitByte v true)
  | 7 => exact congrArg (·, v.getLsbD 0) (BitVec.or_zero.symm.trans (ushiftRight_or_bitByte v false))

theorem Flags.rotate_eq_rotFlags (f : Flags) (r : Byte) (c : Bool) : f.rotate r c = rotFlags r c := by
  simp only [Flags.rotate, Flags.szyxp, Flags.szyx, rotFlags, parity_eq_even, beq_eq_decide]

/-- What `rot[y]` leaves on any operand, in the claims' formulas; an indexed operand writes the latch as well (R47). -/
theorem rotate_row (y : Fin 8) (o : Operand) (s : State) :
    rotate (.row y) o s =
      { s.store o (rotResult y (s.load o) s.f.c).1 with
        f := rotFlags (rotResult y (s.load o) s.f.c).1 (rotResult y (s.load o) s.f.c).2, latch := (s.locate o).latch } := by
  rw [rotate_eq, Flags.rotate_eq_rotFlags, RotOp.run_row]

/-- The copy form is the store of the plain form, after a write of the result to the register (R126, R400). -/
theorem rotateCopy_row (y : Fin 8) (xy : Index) (d : Byte) (r : Reg8) (s : State) :
    rotateCopy (.row y) xy d r s =
      ({ s.setReg8 r (rotResult y (s.readByte (s.ea xy d)) s.f.c).1 with
        f := rotFlags (rotResult y (s.readByte (s.ea xy d)) s.f.c).1 (rotResult y (s.readByte (s.ea xy d)) s.f.c).2,
        latch := s.ea xy d } : State).writeByte (s.ea xy d) (rotResult y (s.readByte (s.ea xy d)) s.f.c).1 := by
  rw [rotateCopy_eq, rotate_row, RotOp.run_row]
  cases r <;> rfl

/-! ### The forms of a row, as the decoder reads them -/

theorem exec_rotR (y : Fin 8) (r : Reg8) (s : State) : exec (rotR y r) s = .next (rotate (.row y) (.reg r) s) := by
  fin_cases y <;> rfl

theorem exec_rotAtHl (y : Fin 8) (s : State) : exec (rotAtHl y) s = .next (rotate (.row y) .atHl s) := by
  fin_cases y <;> rfl

theorem exec_rotIndexed (y : Fin 8) (xy : Index) (d : Byte) (s : State) :
    exec (rotIndexed xy y d) s = .next (rotate (.row y) (.atIndexed xy d) s) := by
  cases xy <;> fin_cases y <;> rfl

theorem exec_rotCopy (y : Fin 8) (xy : Index) (d : Byte) (r : Reg8) (s : State) :
    exec (rotCopy xy y d r) s = .next (rotateCopy (.row y) xy d r s) := by
  cases xy <;> fin_cases y <;> rfl

/-- Every form of the row: on a register it writes registers alone, on a cell it is one store (R400). -/
theorem rotForms (y : Fin 8) :
    RotForms y (rotR y) (rotAtHl y) (fun xy d => rotIndexed xy y d) (fun xy d r => rotCopy xy y d r) := by
  refine ⟨fun r s => ⟨?encReg, ?reg⟩, fun s => ⟨?encHl, ?hl⟩, fun xy d s => ⟨?encIndexed, ?indexed⟩,
    fun xy d r s => ⟨?encCopy, ?copy⟩⟩
  case encReg => fin_cases y <;> cases r <;> rfl
  case encHl => fin_cases y <;> rfl
  case encIndexed => cases xy <;> fin_cases y <;> rfl
  case encCopy => cases xy <;> fin_cases y <;> cases r <;> rfl
  case reg =>
    rw [Gives, exec_rotR, rotate_row]
    cases r <;> rfl
  case hl => exact storesByte_of_exec_writeByte ((exec_rotAtHl y s).trans (congrArg _ (rotate_row y .atHl s))) rfl
  case indexed =>
    exact storesByte_of_exec_writeByte
      ((exec_rotIndexed y xy d s).trans (congrArg _ (rotate_row y (.atIndexed xy d) s))) rfl
  case copy =>
    exact storesByte_of_exec_writeByte ((exec_rotCopy y xy d r s).trans (congrArg _ (rotateCopy_row y xy d r s)))
      (s.setReg8_mem r _)

/-! ### `RLD` and `RRD` (R410, R411) -/

theorem Flags.input_eq (f : Flags) (v : Byte) :
    f.input v =
      { s := v.getLsbD 7, z := decide (v = 0), y := v.getLsbD 5, x := v.getLsbD 3, pv := even v, h := false, n := false, c := f.c } := by
  simp only [Flags.input, Flags.szyxp, Flags.szyx, parity_eq_even, beq_eq_decide]

/-- `RLD` is one store, of the low digit at `(HL)` moved up and the low digit of `A` behind it (R410). -/
theorem rotateDigitLeft_eq (s : State) :
    let t := (s.readByte s.hl).toNat
    let r : Byte := BitVec.ofNat 8 (s.a.toNat / 16 * 16 + t / 16)
    rotateDigitLeft s =
      ({ s with a := r, f := s.f.input r } : State).writeByte s.hl (BitVec.ofNat 8 (t % 16 * 16 + s.a.toNat % 16)) := by
  have hlow := toNat_and_low_nibble s.a
  have hhigh := toNat_ushiftRight_eq_div (s.readByte s.hl) 4
  dsimp only
  rw [rotateDigitLeft, high_digit_or_eq_ofNat _ _ (by omega), shiftLeft_digit_or_eq_ofNat _ _ (by omega), hlow, hhigh]
  rfl

/-- `RRD` is one store, of the low digit of `A` and the high digit at `(HL)` moved down behind it (R411). -/
theorem rotateDigitRight_eq (s : State) :
    let t := (s.readByte s.hl).toNat
    let r : Byte := BitVec.ofNat 8 (s.a.toNat / 16 * 16 + t % 16)
    rotateDigitRight s =
      ({ s with a := r, f := s.f.input r } : State).writeByte s.hl (BitVec.ofNat 8 (s.a.toNat % 16 * 16 + t / 16)) := by
  have hlow := toNat_and_low_nibble (s.readByte s.hl)
  have hhigh := toNat_ushiftRight_eq_div (s.readByte s.hl) 4
  dsimp only
  rw [rotateDigitRight, high_digit_or_eq_ofNat _ _ (by omega), shiftLeft_digit_or_eq_ofNat _ _ (by omega), hlow, hhigh]
  rfl

end Sys2Proof.Machine

namespace Sys2Proof.Proofs.Scope

open Sys2Proof.Machine Sys2Proof.Claims

/-- Settles O51: the eight rows of `rot[y]`. -/
theorem rotateAndShiftForms : Obligations.RotateAndShiftForms :=
  ⟨rotForms 0, rotForms 1, rotForms 2, rotForms 3, rotForms 4, rotForms 5, rotForms 6, rotForms 7⟩

/-- Settles O50: each is the operation of one of the first four rows on `A`. -/
theorem accumulatorRotates : Obligations.AccumulatorRotates := by
  intro s y i r
  have hexec : exec i s = .next (rotateA (.row (y.castLE (by decide))) s) := by fin_cases y <;> rfl
  refine ⟨by fin_cases y <;> rfl, ?_⟩
  rw [Gives, hexec, rotateA, RotOp.run_row]
  rfl

/-- Settles O52: both are one store and one write of `A` with its flags. -/
theorem digitRotates : Obligations.DigitRotates := by
  intro s t a flags left right
  have hflags (r : Byte) : s.f.input r = flags r := Flags.input_eq s.f r
  have hleft := rotateDigitLeft_eq s
  have hright := rotateDigitRight_eq s
  simp only [hflags] at hleft hright
  exact ⟨⟨rfl, storesByte_of_exec_writeByte (congrArg Host.Outcome.next hleft) rfl⟩, rfl,
    storesByte_of_exec_writeByte (congrArg Host.Outcome.next hright) rfl⟩

end Sys2Proof.Proofs.Scope

/-! PROOFS. The bit instructions (family 47_bit.md): a byte with one bit put in place, bit by bit, then the statements form by form. -/

namespace Sys2Proof

open Sys2Proof.Machine Sys2Proof.Claims

/-! ### A byte bit by bit (R451, R452) -/

/-- The sum of the first `n` bits of `f` with their weights, as the claims add them up. -/
def weightedBits (f : Nat → Bool) (n : Nat) : Nat := (List.range n).foldl (fun m k => m + 2 ^ k * (f k).toNat) 0

theorem weightedBits_succ (f : Nat → Bool) (n : Nat) : weightedBits f (n + 1) = weightedBits f n + 2 ^ n * (f n).toNat := by
  rw [weightedBits, List.range_succ, List.foldl_append]; rfl

theorem weightedBits_lt (f : Nat → Bool) (n : Nat) : weightedBits f n < 2 ^ n := by
  induction n with
  | zero => exact Nat.one_pos
  | succ n ih =>
    have hbit : 2 ^ n * (f n).toNat ≤ 2 ^ n := by simpa using Nat.mul_le_mul_left (2 ^ n) (f n).toNat_le
    rw [weightedBits_succ, Nat.pow_succ]
    omega

/-- The bits of the sum are the bits added up. -/
theorem testBit_weightedBits (f : Nat → Bool) {k n : Nat} (hk : k < n) : (weightedBits f n).testBit k = f k := by
  induction n with
  | zero => omega
  | succ n ih =>
    rw [weightedBits_succ, Nat.add_comm, Nat.testBit_two_pow_mul_add _ (weightedBits_lt f n)]
    split
    next hlt => exact ih hlt
    next hge =>
      obtain rfl : k = n := by omega
      rw [Nat.sub_self, Nat.testBit_zero]
      cases f k <;> rfl

theorem getLsbD_putBit (t : Bool) (b : Fin 8) (v : Byte) {k : Nat} (hk : k < 8) :
    (putBit t b v).getLsbD k = if k = b.val then t else v.getLsbD k := by
  have hbits : putBit t b v = BitVec.ofNat 8 (weightedBits (fun k => if k = b.val then t else v.getLsbD k) 8) := rfl
  rw [hbits, BitVec.getLsbD_ofNat, testBit_weightedBits _ hk, decide_eq_true hk, Bool.true_and]

/-- The mask of a bit has that bit alone. -/
theorem getLsbD_one_shiftLeft (b : Fin 8) (k : Nat) : ((1 : Byte) <<< b.val).getLsbD k = decide (b.val = k) := by
  have hmask := BitVec.getLsbD_twoPow (w := 8) b.val k
  rwa [decide_eq_true b.isLt, Bool.true_and] at hmask

/-- Joining the mask sets the bit (R451). -/
theorem setBit_eq_putBit (b : Fin 8) (v : Byte) : setBit b v = putBit true b v := by
  refine BitVec.eq_of_getLsbD_eq fun k hk => ?_
  rw [getLsbD_putBit _ _ _ hk, setBit, BitVec.getLsbD_or, getLsbD_one_shiftLeft]
  by_cases hb : k = b.val
  · simp [hb]
  · simp [hb, Ne.symm hb]

/-- Cutting out the mask resets the bit (R452). -/
theorem resetBit_eq_putBit (b : Fin 8) (v : Byte) : resetBit b v = putBit false b v := by
  refine BitVec.eq_of_getLsbD_eq fun k hk => ?_
  rw [getLsbD_putBit _ _ _ hk, resetBit, BitVec.getLsbD_and, BitVec.getLsbD_not, getLsbD_one_shiftLeft]
  by_cases hb : k = b.val
  · simp [hb]
  · simp [hb, Ne.symm hb, hk]

end Sys2Proof

namespace Sys2Proof.Machine

open Sys2Proof.Claims

/-! ### The bit test (R441) -/

theorem Flags.bit_eq_bitFlags (f : Flags) (v : Byte) (b : Fin 8) (y x : Bool) : f.bit v b y x = bitFlags f v b y x := by
  have hsign : (b.val = 7) = (b = 7) := propext (Fin.ext_iff (b := 7)).symm
  simp only [Flags.bit, bitFlags, hsign, Bool.decide_and, Bool.decide_eq_true]

/-! ### `SET` and `RES` (R450) -/

/-- The row of `SET` or `RES` from its encodings and its one operation `change`: on a register it writes the register alone, on a cell it is
one store, in the copy form after a write to the register. -/
theorem bitForms_of_exec {xx : Nat} {change : Fin 8 → Byte → Byte} {onR : Fin 8 → Reg8 → Instr} {onHl : Fin 8 → Instr}
    {onIndexed : Index → Fin 8 → Byte → Instr} {onCopy : Index → Fin 8 → Byte → Reg8 → Instr}
    (hreg : ∀ b r s, encode (onR b r) = [0xCB, op (64 * xx + 8 * b) r.code] ∧
      exec (onR b r) s = .next (modifyBit (change b) (.reg r) s))
    (hhl : ∀ b s, encode (onHl b) = [0xCB, op (64 * xx + 8 * b) 6] ∧ exec (onHl b) s = .next (modifyBit (change b) .atHl s))
    (hindexed : ∀ xy b d s, encode (onIndexed xy b d) = [lead xy, 0xCB, d, op (64 * xx + 8 * b) 6] ∧
      exec (onIndexed xy b d) s = .next (modifyBit (change b) (.atIndexed xy d) s))
    (hcopy : ∀ xy b d r s, encode (onCopy xy b d r) = [lead xy, 0xCB, d, op (64 * xx + 8 * b) r.code] ∧
      exec (onCopy xy b d r) s = .next (modifyBitCopy (change b) xy d r s)) :
    BitForms xx change onR onHl onIndexed onCopy := by
  refine ⟨hreg, fun b s => (hhl b s).imp_right fun h => storesByte_of_exec_writeByte h rfl,
    fun xy b d s => (hindexed xy b d s).imp_right fun h => storesByte_of_exec_writeByte h rfl,
    fun xy b d r s => (hcopy xy b d r s).imp_right fun h => ?_⟩
  have hstore : modifyBitCopy (change b) xy d r s =
      ({ s.setReg8 r (change b (s.readByte (s.ea xy d))) with latch := s.ea xy d } : State).writeByte (s.ea xy d)
        (change b (s.readByte (s.ea xy d))) := by
    rw [modifyBitCopy_eq, modifyBit_eq]
    cases r <;> rfl
  exact storesByte_of_exec_writeByte (h.trans (congrArg _ hstore)) (s.setReg8_mem r _)

end Sys2Proof.Machine

namespace Sys2Proof.Proofs.Scope

open Sys2Proof.Machine Sys2Proof.Claims

/-- Settles O54: `SET` and `RES` differ in the bit they put and in one field of the opcode. -/
theorem setAndResetForms : Obligations.SetAndResetForms := by
  have hset : setBit = putBit true := funext₂ setBit_eq_putBit
  have hreset : resetBit = putBit false := funext₂ resetBit_eq_putBit
  rw [Obligations.SetAndResetForms, ← hset, ← hreset]
  refine ⟨bitForms_of_exec (fun b r _ => ⟨?_, rfl⟩) (fun b _ => ⟨?_, rfl⟩) (fun xy b _ _ => ⟨?_, by cases xy <;> rfl⟩)
      (fun xy b _ r _ => ⟨?_, by cases xy <;> rfl⟩),
    bitForms_of_exec (fun b r _ => ⟨?_, rfl⟩) (fun b _ => ⟨?_, rfl⟩) (fun xy b _ _ => ⟨?_, by cases xy <;> rfl⟩)
      (fun xy b _ r _ => ⟨?_, by cases xy <;> rfl⟩)⟩
  case refine_1 | refine_5 => fin_cases b <;> cases r <;> rfl
  case refine_2 | refine_6 => fin_cases b <;> rfl
  case refine_3 | refine_7 => cases xy <;> fin_cases b <;> rfl
  case refine_4 | refine_8 => cases xy <;> fin_cases b <;> cases r <;> rfl

/-- Settles O53: the flags of every form are the rule's, with `fY` and `fX` from where the form takes them. -/
theorem bitTests : Obligations.BitTests := by
  intro s b z r xy d
  simp only [← Flags.bit_eq_bitFlags]
  refine ⟨⟨?_, rfl⟩, ⟨?_, rfl⟩, ⟨?_, ?_⟩⟩
  · fin_cases b <;> cases r <;> rfl
  · fin_cases b <;> rfl
  · cases xy <;> fin_cases b <;> fin_cases z <;> rfl
  · cases xy <;> exact congrArg Host.Outcome.next (bitIndexed_eq _ b d s)

end Sys2Proof.Proofs.Scope

/-! PROOFS. The jumps, calls and returns (family 48_control.md): the conditions and targets in the claims' formulas, then each statement
from the operation the instructions share. -/

namespace Sys2Proof.Machine

open Sys2Proof.Claims

/-! ### Conditions and targets (R113, R473) -/

theorem condHolds_iff (cc : Cond) (f : Flags) : condHolds cc f ↔ cc.holds f = true := by
  cases cc <;> simp [condHolds, Cond.holds]

theorem holds_jrCond (jc : JrCond) (f : Flags) : (jrCond jc).holds f = jc.holds f := by
  cases jc <;> rfl

/-- An instruction that acts under a condition: it goes to `t` where the condition holds, and else it does nothing (R113). -/
theorem conditional_of_exec {i : Instr} {s t : State} {cc : Cond} (h : exec i s = .next (if cc.holds s.f then t else s)) :
    (condHolds cc s.f → exec i s = .next t) ∧ (¬condHolds cc s.f → Gives i s s) := by
  rw [condHolds_iff]
  exact ⟨fun hcc => by rw [h, if_pos hcc], fun hcc => by rw [Gives, h, if_neg hcc]⟩

/-- A relative target in the claims' formula (R473). -/
theorem add_sext8_eq_ofInt (w : Word) (d : Byte) : w + sext8 d = BitVec.ofInt 16 (w.toNat + d.toInt) := by
  rw [BitVec.ofInt_add, BitVec.ofInt_natCast, BitVec.ofNat_toNat, BitVec.setWidth_eq]; rfl

/-! ### `CALL` and `RET` (R480, R482) -/

/-- A call pushes `PCn` and goes to its target (R480, R486). -/
theorem storesWord_of_exec_call {i : Instr} {s : State} {target : Word} (h : exec i s = .next (s.call target)) :
    StoresWord i s { s with sp := s.sp - 2, pc := target } (s.sp - 2) s.pc := by
  have hnext : s.sp - 2 + 1 = s.sp - 1 := by bv_omega
  refine ⟨_, h, by simp only [State.call, State.push, State.writeByte, State.setSp, State.setPc], fun x => ?_⟩
  rw [State.readByte_call, hnext, loByte_eq_setWidth, hiByte_eq_setWidth]

/-- A return takes `PC` from the stack (R482). -/
theorem State.popPc_eq (s : State) :
    s.popPc = { s with pc := word (s.readByte (s.sp + 1)) (s.readByte s.sp), sp := s.sp + 2 } := by
  rw [← s.readWord_eq_word]; rfl

end Sys2Proof.Machine

namespace Sys2Proof.Proofs.Scope

open Sys2Proof.Machine Sys2Proof.Claims

/-- Settles O55: each jump is one write of `PC`, the conditional ones under their condition, `DJNZ` with a count in `B`. -/
theorem jumps : Obligations.Jumps := by
  intro s cc jc xy nn e
  dsimp only
  rw [← add_sext8_eq_ofInt, imm16_eq, ← s.hl_eq_word, ofNat_toNat_add_255]
  have hjp := conditional_of_exec (i := .jpCcNn cc nn) (s := s) (t := s.setPc nn) (cc := cc) rfl
  have hjr := conditional_of_exec (i := .jrCcE jc e) (s := s) (t := s.jumpRelative e) (cc := jrCond jc) (by rw [holds_jrCond]; rfl)
  refine ⟨⟨rfl, rfl⟩, ⟨by cases cc <;> rfl, hjp⟩, ⟨rfl, rfl⟩, ⟨by cases jc <;> rfl, hjr⟩, ⟨rfl, rfl⟩,
    ⟨by cases xy <;> rfl, by cases xy <;> rfl⟩, ⟨rfl, ?_⟩⟩
  exact congrArg Host.Outcome.next (decrementAndJump_eq e s)

/-- Settles O56: all three are the one operation `State.call`. -/
theorem callsAndRestarts : Obligations.CallsAndRestarts := by
  intro s cc nn p
  have hcall := conditional_of_exec (i := .callCcNn cc nn) (s := s) (t := s.call nn) (cc := cc) rfl
  rw [imm16_eq]
  exact ⟨⟨rfl, storesWord_of_exec_call rfl⟩,
    ⟨by cases cc <;> rfl, fun hcc => storesWord_of_exec_call (hcall.1 hcc), hcall.2⟩,
    ⟨by fin_cases p <;> rfl, storesWord_of_exec_call rfl⟩⟩

/-- Settles O57: all four are the one operation `State.popPc`, which leaves `IFF`. -/
theorem returns : Obligations.Returns := by
  intro s cc y
  dsimp only
  rw [← s.popPc_eq]
  exact ⟨⟨rfl, rfl⟩, ⟨by cases cc <;> rfl, conditional_of_exec rfl⟩, ⟨rfl, rfl⟩, ⟨by fin_cases y <;> rfl, rfl⟩⟩

end Sys2Proof.Proofs.Scope

/-! PROOFS. Input and output (family 49_io.md): the flags of a block iteration in the claims' formulas, one iteration by direction, then the
single and repeating forms. -/

namespace Sys2Proof.Machine

open Sys2Proof.Claims

/-! ### Flags (R522, R530) -/

/-- A port reads 0, so the flags of `IN` do not depend on the port (R520, R522). -/
theorem Flags.input_portRead (f : Flags) (port : Word) : f.input (portRead port) = inFlags f := by
  rw [Flags.input_eq, portRead]; rfl

theorem Flags.blockIo_eq_blockIoFlags (f : Flags) (b t : Byte) (k : Nat) : f.blockIo b t k = blockIoFlags b t k := by
  simp only [Flags.blockIo, Flags.szyx, blockIoFlags, parity_eq_even, beq_eq_decide, gt_iff_lt]

/-! ### One iteration (R531, R532, R535, R536) -/

/-- A block input is one store, of 0 to `HL`; the rest is registers. -/
theorem blockIn_ofUp (up : Bool) (s : State) :
    blockIn (.ofUp up) s =
      ({ s.setPair .hl (moved up s.hl) with
        b := s.b - 1, f := blockIoFlags (s.b - 1) 0 ((s.c.toNat + if up then 1 else 255) % 256) } : State).writeByte s.hl 0 := by
  have hup : (s.c.toNat + 1) % 256 = (s.c + 1).toNat := (BitVec.toNat_add s.c 1).symm
  have hdown : (s.c.toNat + 255) % 256 = (s.c - 1).toNat := by bv_omega
  rw [blockIn_eq, Direction.move_ofUp, Flags.blockIo_eq_blockIoFlags]
  cases up with
  | true => rw [if_pos rfl, hup]; rfl
  | false => rw [if_neg Bool.false_ne_true, hdown]; rfl

/-- A block output writes registers alone. -/
theorem blockOut_ofUp (up : Bool) (s : State) :
    blockOut (.ofUp up) s =
      { s.setPair .hl (moved up s.hl) with
        b := s.b - 1,
        f := blockIoFlags (s.b - 1) (s.readByte s.hl) ((s.readByte s.hl).toNat + (moved up s.hl).toNat % 256) } := by
  rw [blockOut_eq, Flags.blockIo_eq_blockIoFlags, Direction.move_ofUp, loByte_eq_setWidth, BitVec.toNat_setWidth]
  rfl

/-- `B` after an iteration decides whether the repeating forms go on (R533). -/
theorem blockIoRepeats_eq_decide (t : State) : blockIoRepeats t = decide (t.b ≠ 0) := by
  simp [blockIoRepeats, bne, beq_eq_decide]

end Sys2Proof.Machine

namespace Sys2Proof.Proofs.Scope

open Sys2Proof.Machine Sys2Proof.Claims

/-- Settles O59: one iteration is one store among register writes, and `PC` is set apart from it. -/
theorem blockInput : Obligations.BlockInput := by
  intro s up rep
  refine ⟨by cases rep <;> cases up <;> rfl, ?_⟩
  have hsingle : exec (if up then .ini else .ind) s = .next (blockIn (.ofUp up) s) := by cases up <;> rfl
  have hrepeating : exec (if up then .inir else .indr) s = .next (repeatBlock blockIoRepeats (blockIn (.ofUp up) s)) := by
    cases up <;> rfl
  have hrun := exec_blockForm hsingle hrepeating rfl rep
  rw [blockIoRepeats_eq_decide, blockIn_ofUp, ← ofNat_toNat_add_255] at hrun
  exact storesByte_of_exec_writeByte hrun rfl

/-- Settles O60: one iteration writes registers alone, `PC` is set apart from it. -/
theorem blockOutput : Obligations.BlockOutput := by
  intro s up rep
  refine ⟨by cases rep <;> cases up <;> rfl, ?_⟩
  have hsingle : exec (if up then .outi else .outd) s = .next (blockOut (.ofUp up) s) := by cases up <;> rfl
  have hrepeating : exec (if up then .otir else .otdr) s = .next (repeatBlock blockIoRepeats (blockOut (.ofUp up) s)) := by
    cases up <;> rfl
  have hrun := exec_blockForm hsingle hrepeating rfl rep
  rw [blockIoRepeats_eq_decide, blockOut_ofUp, ← ofNat_toNat_add_255] at hrun
  exact hrun

/-- Settles O58: a read is a write of 0 to a register or of the flags of 0, an output changes nothing. -/
theorem portInstructions : Obligations.PortInstructions := by
  intro s r n
  rw [← Flags.input_portRead s.f s.bc]
  exact ⟨⟨rfl, rfl⟩, ⟨by cases r <;> rfl, rfl⟩, ⟨rfl, rfl⟩, ⟨rfl, rfl⟩, ⟨by cases r <;> rfl, rfl⟩, ⟨rfl, rfl⟩⟩

end Sys2Proof.Proofs.Scope

/-! PROOFS. The trap cycle (family 60_exceptions.md): the whole state it leaves in one equation, what each handler's effect may contain,
then the statements by handler. -/

namespace Sys2Proof.Machine

open Sys2Proof.Claims

/-! ### The state a trap cycle leaves (R562, R563, R590) -/

/-- Stores write memory and nothing else. -/
theorem State.writeBytes_eq (s : State) (ws : List (Word × Byte)) : s.writeBytes ws = { s with mem := (s.writeBytes ws).mem } := by
  induction ws generalizing s with
  | nil => rfl
  | cons w ws ih => exact ih (s.writeByte w.1 w.2)

/-- The reason that stands after a handler with the effect `e`, a signal in the same cycle included (R576, R590). -/
def State.reasonAfter (s : State) (e : TrapEffect) (r : EnvResponse) : TermReason :=
  match e.stop with
  | none => s.termReason
  | some reason => if s.signal == some 0 && r.signalWins then .errSignal else reason.toTermReason

/-- The state after a handler with the effect `e` and the return, as a list of what changes (R563, R571). -/
def State.afterTrap (s : State) (e : TrapEffect) (r : EnvResponse) : State :=
  { s with
    mem := (s.writeBytes e.writes).mem, a := e.a, b := e.b, h := e.h, l := e.l, env := e.env, dma := e.dma.getD s.dma,
    pc := (s.writeBytes e.writes).readWord s.sp, sp := s.sp + 2, terminate := e.stop.isSome, termReason := s.reasonAfter e r }

theorem race_takeTrap_eq_afterTrap {s : State} (hterminate : s.terminate = false) (e : TrapEffect) (r : EnvResponse) :
    r.race (takeTrap e s) = s.afterTrap e r := by
  rw [EnvResponse.race_eq, takeTrap_eq, State.applyTrap_eq, State.writeBytes_eq]
  unfold State.afterTrap State.reasonAfter
  cases e.stop <;> simp only [hterminate, Option.isSome_none, Option.isSome_some, Bool.or_false, Bool.or_true, Bool.false_and,
    Bool.true_and, Bool.false_eq_true, if_false, Option.map_none, Option.map_some, Option.getD_none, Option.getD_some] <;> rfl

/-- What the environment draws for a handler in a step from `s`: after the tick (R585). -/
def State.draws (s : State) (offset : Nat) : EnvResponse := Config.environment offset s.tick

theorem step_eq_trapCycle {s : State} {offset : Nat} (h : trapping s offset) :
    step s = trapCycle s.tick ∧ (s.tick.pc - Config.magicAddress).toNat = offset := by
  obtain ⟨hterminate, hsignal, hpc⟩ := h
  have hmagic : Config.magicAddress.toNat = 0xFFED := rfl
  refine ⟨step_of_magic hterminate hsignal (BitVec.le_def.2 (by omega)), ?_⟩
  rw [State.tick_pc]
  bv_omega

/-- A handler that returns: the step is its effect and the return (R562, R563). -/
theorem step_of_handler_eq_done {s : State} {offset : Nat} {e : TrapEffect} (h : trapping s offset)
    (he : handler offset s.tick (s.draws offset) = .done e) : step s = .next (s.tick.afterTrap e (s.draws offset)) := by
  obtain ⟨hstep, hoffset⟩ := step_eq_trapCycle h
  rw [State.draws] at he
  rw [hstep, trapCycle, hoffset, he, ← race_takeTrap_eq_afterTrap (s := s.tick) h.1]
  rfl

/-- A trap cycle with a successor state ran a handler that returned. -/
theorem exists_handler_eq_done {s t : State} {offset : Nat} (h : trapping s offset) (ht : step s = .next t) :
    ∃ e, handler offset s.tick (s.draws offset) = .done e ∧ t = s.tick.afterTrap e (s.draws offset) := by
  cases he : handler offset s.tick (s.draws offset) with
  | done e =>
    rw [step_of_handler_eq_done h he] at ht
    injection ht with ht
    exact ⟨e, rfl, ht.symm⟩
  | blocked =>
    obtain ⟨hstep, hoffset⟩ := step_eq_trapCycle h
    rw [State.draws] at he
    rw [hstep, trapCycle, hoffset, he] at ht
    cases ht

/-! ### The reason (R576, R590) -/

/-- A signal that comes with the trap cycle was one cycle ahead. -/
theorem signal_eq_some_one {s : State} (hsignal : s.signal ≠ some 0) (htick : s.tick.signal = some 0) : s.signal = some 1 := by
  rw [State.tick_signal, Option.map_eq_some_iff] at htick
  obtain ⟨n, hn, hzero⟩ := htick
  have hne : n ≠ 0 := fun h => hsignal (h ▸ hn)
  rw [hn, show n = 1 by omega]

theorem reasonAfter_of_no_stop {s : State} {e : TrapEffect} (hstop : e.stop = none) (r : EnvResponse) :
    s.reasonAfter e r = s.termReason := by
  rw [State.reasonAfter, hstop]

/-- Where the handler ends the run, the reason is its own or the signal's. -/
theorem reasonAfter_of_stop {s : State} {e : TrapEffect} {reason : StopReason} (hsignal : s.signal ≠ some 0)
    (hstop : e.stop = some reason) (r : EnvResponse) :
    s.tick.reasonAfter e r = reason.toTermReason ∨ s.tick.reasonAfter e r = .errSignal ∧ s.signal = some 1 := by
  simp only [State.reasonAfter, hstop]
  split
  next hrace =>
    obtain ⟨htick, -⟩ := Bool.and_eq_true_iff.1 hrace
    exact .inr ⟨rfl, signal_eq_some_one hsignal (beq_iff_eq.1 htick)⟩
  next => exact .inl rfl

/-! ### Handlers that store nothing (R571, R572) -/

/-- The return after an effect that stores nothing and sets no DMA address. -/
theorem afterTrap_of_no_store {s : State} {e : TrapEffect} (hwrites : e.writes = []) (hdma : e.dma = none) (r : EnvResponse) :
    s.tick.afterTrap e r =
      { returned s e.a e.b e.h e.l e.env with terminate := e.stop.isSome, termReason := s.tick.reasonAfter e r } := by
  rw [State.afterTrap, hwrites, hdma, State.readWord_eq_word]
  rfl

/-- A handler that stores nothing and does not end the run: `A B H L` and the return. -/
theorem step_eq_returned {s : State} {offset : Nat} {e : TrapEffect} (h : trapping s offset)
    (he : handler offset s.tick (s.draws offset) = .done e) (hwrites : e.writes = []) (hdma : e.dma = none) (hstop : e.stop = none) :
    step s = .next (returned s e.a e.b e.h e.l e.env) := by
  have hterminate : e.stop.isSome = s.terminate := by rw [hstop, h.1]; rfl
  rw [step_of_handler_eq_done h he, afterTrap_of_no_store hwrites hdma, hterminate, reasonAfter_of_no_stop hstop]
  rfl

/-- A handler that ends the run and does nothing else: the return, and the handler's reason or the signal's. -/
theorem exists_step_eq_stopped {s : State} {offset : Nat} {reason : StopReason} (h : trapping s offset)
    (he : handler offset s.tick (s.draws offset) = .done ((s.draws offset).stopped reason)) :
    ∃ a b h l env written,
      step s = .next { returned s a b h l env with terminate := true, termReason := written } ∧
        (written = reason.toTermReason ∨ written = .errSignal ∧ s.signal = some 1) := by
  have hrun := step_of_handler_eq_done h he
  rw [afterTrap_of_no_store rfl rfl] at hrun
  obtain ⟨-, hsignal, -⟩ := h
  exact ⟨_, _, _, _, _, _, hrun, reasonAfter_of_stop hsignal rfl _⟩

/-- A handler with a 16-bit result: the result in `HL` and the return (R572). -/
theorem exists_step_eq_word_result {s : State} {offset : Nat} {w : Word} (h : trapping s offset)
    (he : handler offset s.tick (s.draws offset) = .done ((s.draws offset).wordResult w)) :
    ∃ a b env, step s = .next (returned s a b (hiByte w) (loByte w) env) :=
  ⟨_, _, _, step_eq_returned h he rfl rfl rfl⟩

/-! ### The search for the `$` (R573, BDOS 9) -/

theorem dollarWithin_iff (s : State) (fuel a : Nat) : dollarWithin s fuel a = true ↔ ∃ k < fuel, s.mem.get (a + k) = 0x24 := by
  induction fuel generalizing a with
  | zero => simp [dollarWithin]
  | succ fuel ih =>
    simp only [dollarWithin, Bool.or_eq_true, beq_iff_eq, ih, Nat.exists_lt_succ_left, Nat.add_zero, Nat.add_assoc, Nat.add_comm 1]

/-- The search runs from `a` to the end of memory and no further. -/
theorem dollarWithin_end_iff (s : State) (a : Word) :
    dollarWithin s (65536 - a.toNat) a.toNat = true ↔ ∃ x, a ≤ x ∧ s.readByte x = 0x24 := by
  rw [dollarWithin_iff]
  constructor
  · rintro ⟨k, hk, hget⟩
    have hx : (BitVec.ofNat 16 (a.toNat + k)).toNat = a.toNat + k := by rw [BitVec.toNat_ofNat]; omega
    exact ⟨BitVec.ofNat 16 (a.toNat + k), BitVec.le_def.2 (by omega), by rw [State.readByte, hx, hget]⟩
  · rintro ⟨x, hle, hget⟩
    have hle := BitVec.le_def.1 hle
    exact ⟨x.toNat - a.toNat, by omega, by rw [Nat.add_sub_cancel' hle]; exact hget⟩

theorem printString_of_dollar {s : State} {x : Word} (hle : s.de ≤ x) (hx : s.readByte x = 0x24) (r : EnvResponse) :
    printString s r = r.unstated :=
  if_pos ((dollarWithin_end_iff s s.de).2 ⟨x, hle, hx⟩)

theorem printString_of_no_dollar {s : State} (hno : ∀ x, s.de ≤ x → s.readByte x ≠ 0x24) (r : EnvResponse) :
    printString s r = r.stopped .errBdosArg :=
  if_neg fun hdollar =>
    have ⟨x, hle, hx⟩ := (dollarWithin_end_iff s s.de).1 hdollar
    hno x hle hx

/-! ### The handlers by their number (R570, R573) -/

/-- A number outside the table returns 0. -/
theorem bdos_of_unsupported {s : State} (h : bdosUnsupported s.c.toNat = true) (r : EnvResponse) :
    bdos s r = .done (r.byteResult 0) := by
  unfold bdos
  split
  case h_46 => rfl
  all_goals
    next hc =>
      rw [hc] at h
      cases h

theorem bdos_of_fileNumbers {s : State} (h : fileNumbers.contains s.c.toNat = true) (r : EnvResponse) :
    bdos s r = .done (fileFunction s r) := by
  simp only [fileNumbers, List.contains_iff_mem, List.mem_cons, List.not_mem_nil, or_false] at h
  rcases h with h | h | h | h | h | h | h | h | h | h | h | h | h | h | h | h <;> simp only [bdos, h]

theorem waiting_eq_done {r : EnvResponse} {e e' : TrapEffect} (h : r.waiting e = .done e') : e' = e := by
  unfold EnvResponse.waiting at h
  split at h
  · cases h
  · injection h with h
    exact h.symm

theorem fileFunction_dma (s : State) (r : EnvResponse) : (fileFunction s r).dma = none := by
  unfold fileFunction
  cases r.fileStop <;> rfl

theorem printString_dma (s : State) (r : EnvResponse) : (printString s r).dma = none := by
  unfold printString
  split <;> rfl

theorem readLine_dma (s : State) (r : EnvResponse) : (readLine s r).dma = none := by
  unfold readLine
  dsimp only
  split <;> rfl

/-- Of the BDOS functions 13 and 26 alone set the DMA address (R573). -/
theorem dma_of_bdos {s : State} {r : EnvResponse} {e : TrapEffect} (hc : ¬(s.c.toNat = 13 ∨ s.c.toNat = 26))
    (he : bdos s r = .done e) : e.dma = none := by
  obtain ⟨hreset, hset⟩ := not_or.1 hc
  unfold bdos at he
  split at he
  case h_14 h => exact absurd h hreset
  case h_27 h => exact absurd h hset
  case h_2 => rw [waiting_eq_done he]; rfl
  case h_11 => rw [waiting_eq_done he, readLine_dma]
  case h_7 | h_33 | h_44 => split at he <;> cases he <;> rfl
  case h_10 =>
    cases he
    exact printString_dma s r
  case h_15 =>
    cases he
    split <;> rfl
  case h_16 | h_17 | h_18 | h_19 | h_20 | h_21 | h_22 | h_23 | h_24 | h_31 | h_34 | h_35 | h_36 | h_37 | h_39 | h_42 =>
    cases he
    exact fileFunction_dma s r
  all_goals
    cases he
    rfl

theorem dma_of_handler {offset : Nat} {s : State} {r : EnvResponse} {e : TrapEffect}
    (hoffset : ¬(offset = 0 ∧ (s.c.toNat = 13 ∨ s.c.toNat = 26))) (he : handler offset s r = .done e) : e.dma = none := by
  unfold handler at he
  split at he
  case h_1 => exact dma_of_bdos (fun hc => hoffset ⟨rfl, hc⟩) he
  case h_5 => rw [waiting_eq_done he]; rfl
  all_goals
    cases he
    rfl

end Sys2Proof.Machine

namespace Sys2Proof.Proofs.Scope

open Sys2Proof.Machine Sys2Proof.Claims

/-- Settles O9: the return and the frame are fields of `State.afterTrap`; the stores of a file function are confined. -/
theorem trapCycleFrame : Obligations.TrapCycleFrame := by
  intro s t offset h ht
  obtain ⟨e, he, rfl⟩ := exists_handler_eq_done h ht
  refine ⟨rfl, State.readWord_eq_word _ _, rfl, rfl, rfl, rfl, rfl, rfl, rfl, rfl, rfl, rfl, rfl, rfl, rfl, rfl, rfl, rfl, rfl, rfl,
    rfl, fun hoffset => ?dma, rfl, rfl, fun hoffset hfile x hfcb hbuffer => ?file, fun hgoes => ?goes, fun hends => ?ends⟩
  case dma => exact congrArg (Option.getD · s.dma) (dma_of_handler (s := s.tick) hoffset he)
  case file =>
    subst hoffset
    have he' : Handled.done e = .done (fileFunction s.tick (s.draws 0)) := he.symm.trans (bdos_of_fileNumbers (s := s.tick) hfile _)
    injection he' with he'
    subst he'
    refine State.readByte_writeBytes_confine s.tick s.tick.fileRegion _ x (Bool.or_eq_false_iff.2 ⟨?_, ?_⟩)
    · exact decide_eq_false (BitVec.not_lt.2 (BitVec.le_def.2 hfcb))
    · exact decide_eq_false (BitVec.not_lt.2 (BitVec.le_def.2 hbuffer))
  case goes => exact reasonAfter_of_no_stop (Option.isNone_iff_eq_none.1 (Option.isSome_eq_false_iff.1 hgoes)) _
  case ends =>
    obtain ⟨reason, hstop⟩ := Option.isSome_iff_exists.1 hends
    obtain ⟨-, hsignal, -⟩ := h
    obtain ⟨hrun, hsig⟩ := reason.toTermReason_ne
    dsimp only [State.afterTrap]
    obtain hown | ⟨hrace, hdue⟩ := reasonAfter_of_stop hsignal hstop (s.draws offset)
    · rw [hown]
      exact ⟨hrun, fun h => absurd h hsig⟩
    · rw [hrace]
      exact ⟨by decide, fun _ => hdue⟩

/-- Settles O10: each result is an effect that stores nothing, but for the one byte of BDOS 8. -/
theorem bdosByteResults : Obligations.BdosByteResults := by
  refine ⟨fun s v h hcases => ?_, fun s h hc => ?_, fun s h hc => ?_, fun s x h hc hle hx => ?_⟩
  · have he : bdos s.tick (s.draws 0) = .done ((s.draws 0).byteResult v) := by
      rcases hcases with ⟨hc, rfl⟩ | ⟨hc, rfl⟩ | ⟨hc, rfl⟩ | ⟨hc, rfl⟩
      · simp only [bdos, State.tick_c, hc, State.readByte_tick]
      · simp only [bdos, State.tick_c, hc]
      · simp only [bdos, State.tick_c, hc]
      · exact bdos_of_unsupported (s := s.tick) hc _
    exact ⟨_, step_eq_returned h he rfl rfl rfl⟩
  · have he : bdos s.tick (s.draws 0) = .done ((s.draws 0).byteResult (if (s.draws 0).flag then 0xFF else 0x00)) := by
      simp only [bdos, State.tick_c, hc]
    exact ⟨_, _, ite_eq_or_eq _ _ _, step_eq_returned h he rfl rfl rfl⟩
  · have he : bdos s.tick (s.draws 0) = .done { (s.draws 0).unstated with writes := [(0x0003, s.e)] } := by
      simp only [bdos, State.tick_c, hc, State.tick_e]
    exact ⟨_, step_of_handler_eq_done h he, rfl, fun x => s.tick.readByte_writeByte 0x0003 x s.e⟩
  · have he : bdos s.tick (s.draws 0) = .done (s.draws 0).unstated := by
      simp only [bdos, State.tick_c, hc, printString_of_dollar (s := s.tick) hle hx]
    exact ⟨_, _, _, _, _, step_eq_returned h he rfl rfl rfl⟩

/-- Settles O11: each is an effect that stores nothing and does not end the run. -/
theorem biosWordResults : Obligations.BiosWordResults := by
  intro s
  rw [← hiByte_eq_setWidth, ← hiByte_eq_setWidth, ← loByte_eq_setWidth, ← loByte_eq_setWidth]
  refine ⟨fun h => exists_step_eq_word_result (w := 0) h rfl, fun h => ?_,
    fun h => ⟨_, _, _, _, _, step_eq_returned (e := (s.draws 18).unstated) h rfl rfl rfl rfl⟩, fun h hc => ?_, fun h hc => ?_⟩
  · simpa only [State.bc, hiByte_joinBytes, loByte_joinBytes] using exists_step_eq_word_result (w := s.bc) h rfl
  · exact exists_step_eq_word_result (w := s.alvAddr) h (by simp only [handler, bdos, State.tick_c, hc, State.tick_alvAddr])
  · exact exists_step_eq_word_result (w := s.dpbAddr) h (by simp only [handler, bdos, State.tick_c, hc, State.tick_dpbAddr])

/-- Settles O12: each handler ends the run and does nothing else, BDOS 9 when its search fails. -/
theorem trapsThatEndTheRun : Obligations.TrapsThatEndTheRun := by
  rintro s offset reason h (⟨rfl, hc, rfl⟩ | ⟨rfl, rfl⟩ | ⟨rfl, rfl⟩ | ⟨rfl, hc, hno, rfl⟩)
  · have he : bdos s.tick (s.draws 0) = .done ((s.draws 0).stopped .okTerm) := by
      have hnumber : s.c.toNat = 0 := by rw [hc]; rfl
      simp only [bdos, State.tick_c, hnumber]
    exact exists_step_eq_stopped h he
  · exact exists_step_eq_stopped (reason := .errBoot) h rfl
  · exact exists_step_eq_stopped (reason := .okTerm) h rfl
  · have he : bdos s.tick (s.draws 0) = .done ((s.draws 0).stopped .errBdosArg) := by
      have hnumber : s.c.toNat = 9 := by rw [hc]; rfl
      simp only [bdos, State.tick_c, hnumber, printString_of_no_dollar (s := s.tick) hno]
    exact exists_step_eq_stopped h he

end Sys2Proof.Proofs.Scope
